-- ==== Sys2Proof/Word.lean ====
section
/-!
DEFINITION. The machine's word types (00_scope.md R5: REG_WIDTH 16, PHYS_ADDR_WIDTH 20, DATA_BUS_WIDTH one byte).
Everything computed from them (halves, sign extension, address formation) is in Machine/Bits.lean.
-/
namespace Sys2Proof

/-- A byte, the addressable unit of both spaces (20_memory.md R81). -/
abbrev Byte := BitVec 8

/-- A 16-bit register, offset, segment or port number (10_state.md R10). -/
abbrev Word := BitVec 16

/-- A 20-bit physical memory address (20_memory.md R81). -/
abbrev Addr := BitVec 20

end Sys2Proof
end

