-- ==== Sys2Proof/Machine/Bits.lean ====
section
/-!
DEFINITION. Bit fields, byte order, sign extension and address formation (20_memory.md R82, R83, R85; 00_scope.md R7).
-/
namespace Sys2Proof

/-- The less significant half of a word. -/
def loByte (w : Word) : Byte := w.setWidth 8

/-- The more significant half of a word. -/
def hiByte (w : Word) : Byte := (w >>> 8).setWidth 8

/-- `hi ++ lo` (00_scope.md R7). -/
def joinBytes (hi lo : Byte) : Word := hi ++ lo

/-- `sext_16` of a byte (00_scope.md R7). -/
def sext (b : Byte) : Word := b.signExtend 16

/-- `zext_16` of a byte (00_scope.md R7). -/
def zext (b : Byte) : Word := b.setWidth 16

/-- `Phys(seg, off) = (seg * 16 + off) mod 2^20` (20_memory.md R82). -/
def phys (seg off : Word) : Addr := (seg.setWidth 20 <<< 4) + off.setWidth 20

/-- `v` with bit `i` set to `b`; nothing changes when `i` is no bit of `v`. -/
def putBit {n : Nat} (v : BitVec n) (i : Nat) (b : Bool) : BitVec n :=
  if b then v ||| BitVec.twoPow n i else v &&& ~~~(BitVec.twoPow n i)

/-- A one-bit number. -/
def bitOf (b : Bool) : Nat := if b then 1 else 0

end Sys2Proof
end

