-- ==== Sys2Proof/Syntax.lean ====
section
/-!
DEFINITION. The instructions as data (30_encoding.md): registers, operand forms, and ONE constructor of `Instr` per
mnemonic of spec/opcode_table.json.
An undocumented spelling of an instruction (30_encoding.md R150) and an undefined encoding (R151) are constructors of
their own, since the table gives them rows of their own.
A mark that comes before an instruction (segment override, LOCK, repeat; 30_encoding.md R122) is a constructor too.
The constructors with operands come first, then those without, each part in the table's order.
-/
namespace Sys2Proof

/-- A three-bit field of an encoding: a register number or an opcode extension (30_encoding.md R124). -/
inductive Oct where
  | o0 | o1 | o2 | o3 | o4 | o5 | o6 | o7
deriving DecidableEq, Repr

/-- The 8-bit registers (30_encoding.md R126). -/
inductive Reg8 where
  | al | cl | dl | bl | ah | ch | dh | bh
deriving DecidableEq, Repr

/-- The 16-bit general registers (30_encoding.md R126). -/
inductive Reg16 where
  | ax | cx | dx | bx | sp | bp | si | di
deriving DecidableEq, Repr

/-- The segment registers (30_encoding.md R126). -/
inductive SReg where
  | es | cs | ss | ds
deriving DecidableEq, Repr

/-- The register part of a memory operand's offset, one per value of `rm` (30_encoding.md R125). -/
inductive Base where
  | bxsi | bxdi | bpsi | bpdi | si | di | bp | bx
deriving DecidableEq, Repr

/-- A memory operand as ModRM encodes it (30_encoding.md R125).
`noDisp .bp` has no encoding: mod 0 with rm 6 is the direct form. -/
inductive Mem where
  | noDisp (b : Base)
  | direct (disp : Word)
  | disp8 (b : Base) (disp : Byte)
  | disp16 (b : Base) (disp : Word)
deriving DecidableEq, Repr

/-- The operand that `mod` and `rm` name: a register (`mod` = 3) or memory (30_encoding.md R124). -/
inductive RM (R : Type) where
  | reg (r : R)
  | mem (m : Mem)
deriving DecidableEq, Repr

/-- `Eb` (30_encoding.md R140). -/
abbrev RM8 := RM Reg8

/-- `Ev` and `Ew` (30_encoding.md R140). -/
abbrev RM16 := RM Reg16

/-- The sixteen conditions of Jcc (44_control_transfer.md R300). -/
inductive Cond where
  | o | no | b | nb | z | nz | be | a | s | ns | p | np | l | ge | le | g
deriving DecidableEq, Repr

/-- An instruction, or a mark that comes before one. -/
inductive Instr where
  /-- 00 `ADD_Eb_Gb`: R200. -/
  | addEbGb (rm : RM8) (reg : Reg8)
  /-- 01 `ADD_Ev_Gv`: R200. -/
  | addEvGv (rm : RM16) (reg : Reg16)
  /-- 02 `ADD_Gb_Eb`: R200. -/
  | addGbEb (reg : Reg8) (rm : RM8)
  /-- 03 `ADD_Gv_Ev`: R200. -/
  | addGvEv (reg : Reg16) (rm : RM16)
  /-- 04 `ADD_AL_Ib`: R200. -/
  | addALIb (imm : Byte)
  /-- 05 `ADD_AX_Iv`: R200. -/
  | addAXIv (imm : Word)
  /-- 08 `OR_Eb_Gb`: R241. -/
  | orEbGb (rm : RM8) (reg : Reg8)
  /-- 09 `OR_Ev_Gv`: R241. -/
  | orEvGv (rm : RM16) (reg : Reg16)
  /-- 0A `OR_Gb_Eb`: R241. -/
  | orGbEb (reg : Reg8) (rm : RM8)
  /-- 0B `OR_Gv_Ev`: R241. -/
  | orGvEv (reg : Reg16) (rm : RM16)
  /-- 0C `OR_AL_Ib`: R241. -/
  | orALIb (imm : Byte)
  /-- 0D `OR_AX_Iv`: R241. -/
  | orAXIv (imm : Word)
  /-- 10 `ADC_Eb_Gb`: R201. -/
  | adcEbGb (rm : RM8) (reg : Reg8)
  /-- 11 `ADC_Ev_Gv`: R201. -/
  | adcEvGv (rm : RM16) (reg : Reg16)
  /-- 12 `ADC_Gb_Eb`: R201. -/
  | adcGbEb (reg : Reg8) (rm : RM8)
  /-- 13 `ADC_Gv_Ev`: R201. -/
  | adcGvEv (reg : Reg16) (rm : RM16)
  /-- 14 `ADC_AL_Ib`: R201. -/
  | adcALIb (imm : Byte)
  /-- 15 `ADC_AX_Iv`: R201. -/
  | adcAXIv (imm : Word)
  /-- 18 `SBB_Eb_Gb`: R203. -/
  | sbbEbGb (rm : RM8) (reg : Reg8)
  /-- 19 `SBB_Ev_Gv`: R203. -/
  | sbbEvGv (rm : RM16) (reg : Reg16)
  /-- 1A `SBB_Gb_Eb`: R203. -/
  | sbbGbEb (reg : Reg8) (rm : RM8)
  /-- 1B `SBB_Gv_Ev`: R203. -/
  | sbbGvEv (reg : Reg16) (rm : RM16)
  /-- 1C `SBB_AL_Ib`: R203. -/
  | sbbALIb (imm : Byte)
  /-- 1D `SBB_AX_Iv`: R203. -/
  | sbbAXIv (imm : Word)
  /-- 20 `AND_Eb_Gb`: R240. -/
  | andEbGb (rm : RM8) (reg : Reg8)
  /-- 21 `AND_Ev_Gv`: R240. -/
  | andEvGv (rm : RM16) (reg : Reg16)
  /-- 22 `AND_Gb_Eb`: R240. -/
  | andGbEb (reg : Reg8) (rm : RM8)
  /-- 23 `AND_Gv_Ev`: R240. -/
  | andGvEv (reg : Reg16) (rm : RM16)
  /-- 24 `AND_AL_Ib`: R240. -/
  | andALIb (imm : Byte)
  /-- 25 `AND_AX_Iv`: R240. -/
  | andAXIv (imm : Word)
  /-- 28 `SUB_Eb_Gb`: R202. -/
  | subEbGb (rm : RM8) (reg : Reg8)
  /-- 29 `SUB_Ev_Gv`: R202. -/
  | subEvGv (rm : RM16) (reg : Reg16)
  /-- 2A `SUB_Gb_Eb`: R202. -/
  | subGbEb (reg : Reg8) (rm : RM8)
  /-- 2B `SUB_Gv_Ev`: R202. -/
  | subGvEv (reg : Reg16) (rm : RM16)
  /-- 2C `SUB_AL_Ib`: R202. -/
  | subALIb (imm : Byte)
  /-- 2D `SUB_AX_Iv`: R202. -/
  | subAXIv (imm : Word)
  /-- 30 `XOR_Eb_Gb`: R242. -/
  | xorEbGb (rm : RM8) (reg : Reg8)
  /-- 31 `XOR_Ev_Gv`: R242. -/
  | xorEvGv (rm : RM16) (reg : Reg16)
  /-- 32 `XOR_Gb_Eb`: R242. -/
  | xorGbEb (reg : Reg8) (rm : RM8)
  /-- 33 `XOR_Gv_Ev`: R242. -/
  | xorGvEv (reg : Reg16) (rm : RM16)
  /-- 34 `XOR_AL_Ib`: R242. -/
  | xorALIb (imm : Byte)
  /-- 35 `XOR_AX_Iv`: R242. -/
  | xorAXIv (imm : Word)
  /-- 38 `CMP_Eb_Gb`: R204. -/
  | cmpEbGb (rm : RM8) (reg : Reg8)
  /-- 39 `CMP_Ev_Gv`: R204. -/
  | cmpEvGv (rm : RM16) (reg : Reg16)
  /-- 3A `CMP_Gb_Eb`: R204. -/
  | cmpGbEb (reg : Reg8) (rm : RM8)
  /-- 3B `CMP_Gv_Ev`: R204. -/
  | cmpGvEv (reg : Reg16) (rm : RM16)
  /-- 3C `CMP_AL_Ib`: R204. -/
  | cmpALIb (imm : Byte)
  /-- 3D `CMP_AX_Iv`: R204. -/
  | cmpAXIv (imm : Word)
  /-- 40 `INC_reg16`: R205. -/
  | incReg16 (r : Reg16)
  /-- 48 `DEC_reg16`: R206. -/
  | decReg16 (r : Reg16)
  /-- 50 `PUSH_reg16`: R172. -/
  | pushReg16 (r : Reg16)
  /-- 58 `POP_reg16`: R175. -/
  | popReg16 (r : Reg16)
  /-- 60 `Jcc_Jb__undocumented_alias_of_70-7F`: R300. -/
  | jcc60 (cc : Cond) (disp : Byte)
  /-- 70 `Jcc_Jb`: R300. -/
  | jcc (cc : Cond) (disp : Byte)
  /-- 80 /0 `ADD_Eb_Ib`: R200. -/
  | addEbIb (rm : RM8) (imm : Byte)
  /-- 80 /1 `OR_Eb_Ib`: R241. -/
  | orEbIb (rm : RM8) (imm : Byte)
  /-- 80 /2 `ADC_Eb_Ib`: R201. -/
  | adcEbIb (rm : RM8) (imm : Byte)
  /-- 80 /3 `SBB_Eb_Ib`: R203. -/
  | sbbEbIb (rm : RM8) (imm : Byte)
  /-- 80 /4 `AND_Eb_Ib`: R240. -/
  | andEbIb (rm : RM8) (imm : Byte)
  /-- 80 /5 `SUB_Eb_Ib`: R202. -/
  | subEbIb (rm : RM8) (imm : Byte)
  /-- 80 /6 `XOR_Eb_Ib`: R242. -/
  | xorEbIb (rm : RM8) (imm : Byte)
  /-- 80 /7 `CMP_Eb_Ib`: R204. -/
  | cmpEbIb (rm : RM8) (imm : Byte)
  /-- 81 /0 `ADD_Ev_Iv`: R200. -/
  | addEvIv (rm : RM16) (imm : Word)
  /-- 81 /1 `OR_Ev_Iv`: R241. -/
  | orEvIv (rm : RM16) (imm : Word)
  /-- 81 /2 `ADC_Ev_Iv`: R201. -/
  | adcEvIv (rm : RM16) (imm : Word)
  /-- 81 /3 `SBB_Ev_Iv`: R203. -/
  | sbbEvIv (rm : RM16) (imm : Word)
  /-- 81 /4 `AND_Ev_Iv`: R240. -/
  | andEvIv (rm : RM16) (imm : Word)
  /-- 81 /5 `SUB_Ev_Iv`: R202. -/
  | subEvIv (rm : RM16) (imm : Word)
  /-- 81 /6 `XOR_Ev_Iv`: R242. -/
  | xorEvIv (rm : RM16) (imm : Word)
  /-- 81 /7 `CMP_Ev_Iv`: R204. -/
  | cmpEvIv (rm : RM16) (imm : Word)
  /-- 82 /0 `ADD_Eb_Ib__undocumented_alias_of_80`: R200. -/
  | addEbIb82 (rm : RM8) (imm : Byte)
  /-- 82 /1 `OR_Eb_Ib__undocumented_alias_of_80`: R241. -/
  | orEbIb82 (rm : RM8) (imm : Byte)
  /-- 82 /2 `ADC_Eb_Ib__undocumented_alias_of_80`: R201. -/
  | adcEbIb82 (rm : RM8) (imm : Byte)
  /-- 82 /3 `SBB_Eb_Ib__undocumented_alias_of_80`: R203. -/
  | sbbEbIb82 (rm : RM8) (imm : Byte)
  /-- 82 /4 `AND_Eb_Ib__undocumented_alias_of_80`: R240. -/
  | andEbIb82 (rm : RM8) (imm : Byte)
  /-- 82 /5 `SUB_Eb_Ib__undocumented_alias_of_80`: R202. -/
  | subEbIb82 (rm : RM8) (imm : Byte)
  /-- 82 /6 `XOR_Eb_Ib__undocumented_alias_of_80`: R242. -/
  | xorEbIb82 (rm : RM8) (imm : Byte)
  /-- 82 /7 `CMP_Eb_Ib__undocumented_alias_of_80`: R204. -/
  | cmpEbIb82 (rm : RM8) (imm : Byte)
  /-- 83 /0 `ADD_Ev_Ib_sign-extended`: R200. -/
  | addEvIbs (rm : RM16) (imm : Byte)
  /-- 83 /1 `OR_Ev_Ib_sign-extended___undocumented`: R241. -/
  | orEvIbs (rm : RM16) (imm : Byte)
  /-- 83 /2 `ADC_Ev_Ib_sign-extended`: R201. -/
  | adcEvIbs (rm : RM16) (imm : Byte)
  /-- 83 /3 `SBB_Ev_Ib_sign-extended`: R203. -/
  | sbbEvIbs (rm : RM16) (imm : Byte)
  /-- 83 /4 `AND_Ev_Ib_sign-extended___undocumented`: R240. -/
  | andEvIbs (rm : RM16) (imm : Byte)
  /-- 83 /5 `SUB_Ev_Ib_sign-extended`: R202. -/
  | subEvIbs (rm : RM16) (imm : Byte)
  /-- 83 /6 `XOR_Ev_Ib_sign-extended___undocumented`: R242. -/
  | xorEvIbs (rm : RM16) (imm : Byte)
  /-- 83 /7 `CMP_Ev_Ib_sign-extended`: R204. -/
  | cmpEvIbs (rm : RM16) (imm : Byte)
  /-- 84 `TEST_Eb_Gb`: R243. -/
  | testEbGb (rm : RM8) (reg : Reg8)
  /-- 85 `TEST_Ev_Gv`: R243. -/
  | testEvGv (rm : RM16) (reg : Reg16)
  /-- 86 `XCHG_Eb_Gb`: R178. -/
  | xchgEbGb (rm : RM8) (reg : Reg8)
  /-- 87 `XCHG_Ev_Gv`: R178. -/
  | xchgEvGv (rm : RM16) (reg : Reg16)
  /-- 88 `MOV_Eb_Gb`: R170. -/
  | movEbGb (rm : RM8) (reg : Reg8)
  /-- 89 `MOV_Ev_Gv`: R170. -/
  | movEvGv (rm : RM16) (reg : Reg16)
  /-- 8A `MOV_Gb_Eb`: R170. -/
  | movGbEb (reg : Reg8) (rm : RM8)
  /-- 8B `MOV_Gv_Ev`: R170. -/
  | movGvEv (reg : Reg16) (rm : RM16)
  /-- 8C `MOV_Ew_Sw`: R171. -/
  | movEwSw (rm : RM16) (sr : SReg)
  /-- 8C `MOV_Ew_Sw__undocumented__reg_bit_2_ignored`: R171. -/
  | movEwSwHi (rm : RM16) (sr : SReg)
  /-- 8D `LEA_Gv_M`: R183. -/
  | lea (reg : Reg16) (m : Mem)
  /-- 8D `undefined__LEA_with_mod_3`: R151. -/
  | undefLea (reg : Reg16) (rm : Reg16)
  /-- 8E `MOV_Sw_Ew`: R171. -/
  | movSwEw (sr : SReg) (rm : RM16)
  /-- 8E `MOV_Sw_Ew__undocumented__reg_bit_2_ignored`: R171. -/
  | movSwEwHi (sr : SReg) (rm : RM16)
  /-- 8F /0 `POP_Ev`: R177. -/
  | popEv (rm : RM16)
  /-- 8F /1 `undefined__8F__1`: R151. -/
  | undef8F1 (rm : RM16)
  /-- 8F /2 `undefined__8F__2`: R151. -/
  | undef8F2 (rm : RM16)
  /-- 8F /3 `undefined__8F__3`: R151. -/
  | undef8F3 (rm : RM16)
  /-- 8F /4 `undefined__8F__4`: R151. -/
  | undef8F4 (rm : RM16)
  /-- 8F /5 `undefined__8F__5`: R151. -/
  | undef8F5 (rm : RM16)
  /-- 8F /6 `undefined__8F__6`: R151. -/
  | undef8F6 (rm : RM16)
  /-- 8F /7 `undefined__8F__7`: R151. -/
  | undef8F7 (rm : RM16)
  /-- 9A `CALL_Ap__far_direct`: R304. -/
  | callAp (off : Word) (seg : Word)
  /-- A0 `MOV_AL__Ob`: R170. -/
  | movALOb (off : Word)
  /-- A1 `MOV_AX__Ov`: R170. -/
  | movAXOv (off : Word)
  /-- A2 `MOV__Ob__AL`: R170. -/
  | movObAL (off : Word)
  /-- A3 `MOV__Ov__AX`: R170. -/
  | movOvAX (off : Word)
  /-- A8 `TEST_AL_Ib`: R243. -/
  | testALIb (imm : Byte)
  /-- A9 `TEST_AX_Iv`: R243. -/
  | testAXIv (imm : Word)
  /-- B0 `MOV_reg8_Ib`: R170. -/
  | movReg8Ib (r : Reg8) (imm : Byte)
  /-- B8 `MOV_reg16_Iv`: R170. -/
  | movReg16Iv (r : Reg16) (imm : Word)
  /-- C0 `RET_Iw__undocumented_alias_of_C2`: R308. -/
  | retIwC0 (imm : Word)
  /-- C2 `RET_Iw__near`: R308. -/
  | retIw (imm : Word)
  /-- C4 `LES_Gv_Mp`: R185. -/
  | les (reg : Reg16) (m : Mem)
  /-- C4 `undefined__LES_with_mod_3`: R151. -/
  | undefLes (reg : Reg16) (rm : Reg16)
  /-- C5 `LDS_Gv_Mp`: R184. -/
  | lds (reg : Reg16) (m : Mem)
  /-- C5 `undefined__LDS_with_mod_3`: R151. -/
  | undefLds (reg : Reg16) (rm : Reg16)
  /-- C6 /0 `MOV_Eb_Ib`: R170. -/
  | movEbIb (rm : RM8) (imm : Byte)
  /-- C6 /1 `undefined__C6__1`: R151. -/
  | undefC61 (rm : RM8) (imm : Byte)
  /-- C6 /2 `undefined__C6__2`: R151. -/
  | undefC62 (rm : RM8) (imm : Byte)
  /-- C6 /3 `undefined__C6__3`: R151. -/
  | undefC63 (rm : RM8) (imm : Byte)
  /-- C6 /4 `undefined__C6__4`: R151. -/
  | undefC64 (rm : RM8) (imm : Byte)
  /-- C6 /5 `undefined__C6__5`: R151. -/
  | undefC65 (rm : RM8) (imm : Byte)
  /-- C6 /6 `undefined__C6__6`: R151. -/
  | undefC66 (rm : RM8) (imm : Byte)
  /-- C6 /7 `undefined__C6__7`: R151. -/
  | undefC67 (rm : RM8) (imm : Byte)
  /-- C7 /0 `MOV_Ev_Iv`: R170. -/
  | movEvIv (rm : RM16) (imm : Word)
  /-- C7 /1 `undefined__C7__1`: R151. -/
  | undefC71 (rm : RM16) (imm : Word)
  /-- C7 /2 `undefined__C7__2`: R151. -/
  | undefC72 (rm : RM16) (imm : Word)
  /-- C7 /3 `undefined__C7__3`: R151. -/
  | undefC73 (rm : RM16) (imm : Word)
  /-- C7 /4 `undefined__C7__4`: R151. -/
  | undefC74 (rm : RM16) (imm : Word)
  /-- C7 /5 `undefined__C7__5`: R151. -/
  | undefC75 (rm : RM16) (imm : Word)
  /-- C7 /6 `undefined__C7__6`: R151. -/
  | undefC76 (rm : RM16) (imm : Word)
  /-- C7 /7 `undefined__C7__7`: R151. -/
  | undefC77 (rm : RM16) (imm : Word)
  /-- C8 `RETF_Iw__undocumented_alias_of_CA`: R310. -/
  | retfIwC8 (imm : Word)
  /-- CA `RETF_Iw__far`: R310. -/
  | retfIw (imm : Word)
  /-- CD `INT_Ib`: R311. -/
  | intIb (imm : Byte)
  /-- D0 /0 `ROL_Eb_1`: R250. -/
  | rolEb1 (rm : RM8)
  /-- D0 /1 `ROR_Eb_1`: R251. -/
  | rorEb1 (rm : RM8)
  /-- D0 /2 `RCL_Eb_1`: R252. -/
  | rclEb1 (rm : RM8)
  /-- D0 /3 `RCR_Eb_1`: R253. -/
  | rcrEb1 (rm : RM8)
  /-- D0 /4 `SHL_Eb_1`: R254. -/
  | shlEb1 (rm : RM8)
  /-- D0 /5 `SHR_Eb_1`: R255. -/
  | shrEb1 (rm : RM8)
  /-- D0 /6 `undefined__D0__6`: R257. -/
  | undefD06 (rm : RM8)
  /-- D0 /7 `SAR_Eb_1`: R256. -/
  | sarEb1 (rm : RM8)
  /-- D1 /0 `ROL_Ev_1`: R250. -/
  | rolEv1 (rm : RM16)
  /-- D1 /1 `ROR_Ev_1`: R251. -/
  | rorEv1 (rm : RM16)
  /-- D1 /2 `RCL_Ev_1`: R252. -/
  | rclEv1 (rm : RM16)
  /-- D1 /3 `RCR_Ev_1`: R253. -/
  | rcrEv1 (rm : RM16)
  /-- D1 /4 `SHL_Ev_1`: R254. -/
  | shlEv1 (rm : RM16)
  /-- D1 /5 `SHR_Ev_1`: R255. -/
  | shrEv1 (rm : RM16)
  /-- D1 /6 `undefined__D1__6`: R257. -/
  | undefD16 (rm : RM16)
  /-- D1 /7 `SAR_Ev_1`: R256. -/
  | sarEv1 (rm : RM16)
  /-- D2 /0 `ROL_Eb_CL`: R250. -/
  | rolEbCL (rm : RM8)
  /-- D2 /1 `ROR_Eb_CL`: R251. -/
  | rorEbCL (rm : RM8)
  /-- D2 /2 `RCL_Eb_CL`: R252. -/
  | rclEbCL (rm : RM8)
  /-- D2 /3 `RCR_Eb_CL`: R253. -/
  | rcrEbCL (rm : RM8)
  /-- D2 /4 `SHL_Eb_CL`: R254. -/
  | shlEbCL (rm : RM8)
  /-- D2 /5 `SHR_Eb_CL`: R255. -/
  | shrEbCL (rm : RM8)
  /-- D2 /6 `undefined__D2__6`: R257. -/
  | undefD26 (rm : RM8)
  /-- D2 /7 `SAR_Eb_CL`: R256. -/
  | sarEbCL (rm : RM8)
  /-- D3 /0 `ROL_Ev_CL`: R250. -/
  | rolEvCL (rm : RM16)
  /-- D3 /1 `ROR_Ev_CL`: R251. -/
  | rorEvCL (rm : RM16)
  /-- D3 /2 `RCL_Ev_CL`: R252. -/
  | rclEvCL (rm : RM16)
  /-- D3 /3 `RCR_Ev_CL`: R253. -/
  | rcrEvCL (rm : RM16)
  /-- D3 /4 `SHL_Ev_CL`: R254. -/
  | shlEvCL (rm : RM16)
  /-- D3 /5 `SHR_Ev_CL`: R255. -/
  | shrEvCL (rm : RM16)
  /-- D3 /6 `undefined__D3__6`: R257. -/
  | undefD36 (rm : RM16)
  /-- D3 /7 `SAR_Ev_CL`: R256. -/
  | sarEvCL (rm : RM16)
  /-- D4 `AAM_Ib`: R212. -/
  | aam (imm : Byte)
  /-- D5 `AAD_Ib`: R213. -/
  | aad (imm : Byte)
  /-- D8 `ESC`: R343. -/
  | esc (op : Oct) (reg : Oct) (rm : RM16)
  /-- E0 `LOOPNE_Jb`: R316. -/
  | loopne (disp : Byte)
  /-- E1 `LOOPE_Jb`: R317. -/
  | loope (disp : Byte)
  /-- E2 `LOOP_Jb`: R315. -/
  | loop (disp : Byte)
  /-- E3 `JCXZ_Jb`: R318. -/
  | jcxz (disp : Byte)
  /-- E4 `IN_AL_Ib`: R180. -/
  | inALIb (imm : Byte)
  /-- E5 `IN_AX_Ib`: R180. -/
  | inAXIb (imm : Byte)
  /-- E6 `OUT_Ib_AL`: R181. -/
  | outIbAL (imm : Byte)
  /-- E7 `OUT_Ib_AX`: R181. -/
  | outIbAX (imm : Byte)
  /-- E8 `CALL_Jv__near_relative`: R303. -/
  | callJv (disp : Word)
  /-- E9 `JMP_Jv__near_relative`: R291. -/
  | jmpJv (disp : Word)
  /-- EA `JMP_Ap__far_direct`: R293. -/
  | jmpAp (off : Word) (seg : Word)
  /-- EB `JMP_Jb__short`: R290. -/
  | jmpJb (disp : Byte)
  /-- F6 /0 `TEST_Eb_Ib`: R243. -/
  | testEbIb (rm : RM8) (imm : Byte)
  /-- F6 /1 `TEST_Eb_Ib__undocumented_alias_of__0`: R243. -/
  | testEbIb1 (rm : RM8) (imm : Byte)
  /-- F6 /2 `NOT_Eb`: R244. -/
  | notEb (rm : RM8)
  /-- F6 /3 `NEG_Eb`: R207. -/
  | negEb (rm : RM8)
  /-- F6 /4 `MUL_Eb`: R220. -/
  | mulEb (rm : RM8)
  /-- F6 /5 `IMUL_Eb`: R221. -/
  | imulEb (rm : RM8)
  /-- F6 /6 `DIV_Eb`: R222. -/
  | divEb (rm : RM8)
  /-- F6 /7 `IDIV_Eb`: R223. -/
  | idivEb (rm : RM8)
  /-- F7 /0 `TEST_Ev_Iv`: R243. -/
  | testEvIv (rm : RM16) (imm : Word)
  /-- F7 /1 `TEST_Ev_Iv__undocumented_alias_of__0`: R243. -/
  | testEvIv1 (rm : RM16) (imm : Word)
  /-- F7 /2 `NOT_Ev`: R244. -/
  | notEv (rm : RM16)
  /-- F7 /3 `NEG_Ev`: R207. -/
  | negEv (rm : RM16)
  /-- F7 /4 `MUL_Ev`: R220. -/
  | mulEv (rm : RM16)
  /-- F7 /5 `IMUL_Ev`: R221. -/
  | imulEv (rm : RM16)
  /-- F7 /6 `DIV_Ev`: R222. -/
  | divEv (rm : RM16)
  /-- F7 /7 `IDIV_Ev`: R223. -/
  | idivEv (rm : RM16)
  /-- FE /0 `INC_Eb`: R205. -/
  | incEb (rm : RM8)
  /-- FE /1 `DEC_Eb`: R206. -/
  | decEb (rm : RM8)
  /-- FE /2 `undefined__FE__2`: R151. -/
  | undefFE2 (rm : RM8)
  /-- FE /3 `undefined__FE__3`: R151. -/
  | undefFE3 (rm : RM8)
  /-- FE /4 `undefined__FE__4`: R151. -/
  | undefFE4 (rm : RM8)
  /-- FE /5 `undefined__FE__5`: R151. -/
  | undefFE5 (rm : RM8)
  /-- FE /6 `undefined__FE__6`: R151. -/
  | undefFE6 (rm : RM8)
  /-- FE /7 `undefined__FE__7`: R151. -/
  | undefFE7 (rm : RM8)
  /-- FF /0 `INC_Ev`: R205. -/
  | incEv (rm : RM16)
  /-- FF /1 `DEC_Ev`: R206. -/
  | decEv (rm : RM16)
  /-- FF /2 `CALL_Ev__near_indirect`: R305. -/
  | callEv (rm : RM16)
  /-- FF /3 `CALL_Mp__far_indirect`: R306. -/
  | callMp (m : Mem)
  /-- FF /3 `undefined__FF__3_with_mod_3`: R151. -/
  | undefFF3 (r : Reg16)
  /-- FF /4 `JMP_Ev__near_indirect`: R292. -/
  | jmpEv (rm : RM16)
  /-- FF /5 `JMP_Mp__far_indirect`: R294. -/
  | jmpMp (m : Mem)
  /-- FF /5 `undefined__FF__5_with_mod_3`: R151. -/
  | undefFF5 (r : Reg16)
  /-- FF /6 `PUSH_Ev`: R174. -/
  | pushEv (rm : RM16)
  /-- FF /7 `undefined__FF__7`: R151. -/
  | undefFF7 (rm : RM16)
  /-- 06 `PUSH_ES`: R173. -/
  | pushES
  /-- 07 `POP_ES`: R176. -/
  | popES
  /-- 26 `ES___segment_override`: R333. -/
  | segES
  /-- 0E `PUSH_CS`: R173. -/
  | pushCS
  /-- 0F `POP_CS__undocumented`: R176. -/
  | popCS
  /-- 2E `CS___segment_override`: R333. -/
  | segCS
  /-- 16 `PUSH_SS`: R173. -/
  | pushSS
  /-- 17 `POP_SS`: R176. -/
  | popSS
  /-- 36 `SS___segment_override`: R333. -/
  | segSS
  /-- 1E `PUSH_DS`: R173. -/
  | pushDS
  /-- 1F `POP_DS`: R176. -/
  | popDS
  /-- 3E `DS___segment_override`: R333. -/
  | segDS
  /-- 27 `DAA`: R214. -/
  | daa
  /-- 2F `DAS`: R215. -/
  | das
  /-- 37 `AAA`: R210. -/
  | aaa
  /-- 3F `AAS`: R211. -/
  | aas
  /-- 90 `NOP`: R340. -/
  | nop
  /-- 91 `XCHG_AX_CX`: R179. -/
  | xchgAXCX
  /-- 92 `XCHG_AX_DX`: R179. -/
  | xchgAXDX
  /-- 93 `XCHG_AX_BX`: R179. -/
  | xchgAXBX
  /-- 94 `XCHG_AX_SP`: R179. -/
  | xchgAXSP
  /-- 95 `XCHG_AX_BP`: R179. -/
  | xchgAXBP
  /-- 96 `XCHG_AX_SI`: R179. -/
  | xchgAXSI
  /-- 97 `XCHG_AX_DI`: R179. -/
  | xchgAXDI
  /-- 98 `CBW`: R218. -/
  | cbw
  /-- 99 `CWD`: R219. -/
  | cwd
  /-- 9B `WAIT`: R342. -/
  | wait
  /-- 9C `PUSHF`: R188. -/
  | pushf
  /-- 9D `POPF`: R189. -/
  | popf
  /-- 9E `SAHF`: R187. -/
  | sahf
  /-- 9F `LAHF`: R186. -/
  | lahf
  /-- A4 `MOVSB`: R270. -/
  | movsb
  /-- A5 `MOVSW`: R270. -/
  | movsw
  /-- A6 `CMPSB`: R271. -/
  | cmpsb
  /-- A7 `CMPSW`: R271. -/
  | cmpsw
  /-- AA `STOSB`: R274. -/
  | stosb
  /-- AB `STOSW`: R274. -/
  | stosw
  /-- AC `LODSB`: R273. -/
  | lodsb
  /-- AD `LODSW`: R273. -/
  | lodsw
  /-- AE `SCASB`: R272. -/
  | scasb
  /-- AF `SCASW`: R272. -/
  | scasw
  /-- C1 `RET__undocumented_alias_of_C3`: R307. -/
  | retC1
  /-- C3 `RET__near`: R307. -/
  | ret
  /-- C9 `RETF__undocumented_alias_of_CB`: R309. -/
  | retfC9
  /-- CB `RETF__far`: R309. -/
  | retf
  /-- CC `INT_3`: R312. -/
  | int3
  /-- CE `INTO`: R313. -/
  | into
  /-- CF `IRET`: R314. -/
  | iret
  /-- D6 `SALC__undocumented`: R346. -/
  | salc
  /-- D7 `XLAT`: R182. -/
  | xlat
  /-- EC `IN_AL_DX`: R180. -/
  | inALDX
  /-- ED `IN_AX_DX`: R180. -/
  | inAXDX
  /-- EE `OUT_DX_AL`: R181. -/
  | outDXAL
  /-- EF `OUT_DX_AX`: R181. -/
  | outDXAX
  /-- F0 `LOCK__prefix`: R344. -/
  | lock
  /-- F1 `LOCK__prefix__undocumented_alias_of_F0`: R344. -/
  | lockF1
  /-- F2 `REPNE___REPNZ__prefix`: R276. -/
  | repne
  /-- F3 `REP___REPE___REPZ__prefix`: R276. -/
  | rep
  /-- F4 `HLT`: R341. -/
  | hlt
  /-- F5 `CMC`: R332. -/
  | cmc
  /-- F8 `CLC`: R330. -/
  | clc
  /-- F9 `STC`: R331. -/
  | stc
  /-- FA `CLI`: R336. -/
  | cli
  /-- FB `STI`: R337. -/
  | sti
  /-- FC `CLD`: R334. -/
  | cld
  /-- FD `STD`: R335. -/
  | std
deriving DecidableEq, Repr

end Sys2Proof
end

