-- ==== Sys2Proof/WellFormed.lean ====
section
/-!
DEFINITION. Which instructions have an encoding: every operand value has one, but for the memory operand `[BP]` without a
displacement, whose ModRM byte (mod 0, rm 6) is the direct form (30_encoding.md R125).
-/
namespace Sys2Proof

/-- A memory operand that ModRM can encode (30_encoding.md R125). -/
def Mem.wf : Mem → Bool
  | .noDisp b => b ≠ .bp
  | .direct _ | .disp8 _ _ | .disp16 _ _ => true

/-- An `r/m` operand that ModRM can encode. -/
def RM.wf {R : Type} : RM R → Bool
  | .reg _ => true
  | .mem m => m.wf

/-- An instruction that has an encoding (30_encoding.md R125, R140). -/
def Instr.wf (i : Instr) : Bool :=
  match i with
  | .addEbGb rm _ => rm.wf
  | .addEvGv rm _ => rm.wf
  | .addGbEb _ rm => rm.wf
  | .addGvEv _ rm => rm.wf
  | .addALIb _ => true
  | .addAXIv _ => true
  | .orEbGb rm _ => rm.wf
  | .orEvGv rm _ => rm.wf
  | .orGbEb _ rm => rm.wf
  | .orGvEv _ rm => rm.wf
  | .orALIb _ => true
  | .orAXIv _ => true
  | .adcEbGb rm _ => rm.wf
  | .adcEvGv rm _ => rm.wf
  | .adcGbEb _ rm => rm.wf
  | .adcGvEv _ rm => rm.wf
  | .adcALIb _ => true
  | .adcAXIv _ => true
  | .sbbEbGb rm _ => rm.wf
  | .sbbEvGv rm _ => rm.wf
  | .sbbGbEb _ rm => rm.wf
  | .sbbGvEv _ rm => rm.wf
  | .sbbALIb _ => true
  | .sbbAXIv _ => true
  | .andEbGb rm _ => rm.wf
  | .andEvGv rm _ => rm.wf
  | .andGbEb _ rm => rm.wf
  | .andGvEv _ rm => rm.wf
  | .andALIb _ => true
  | .andAXIv _ => true
  | .subEbGb rm _ => rm.wf
  | .subEvGv rm _ => rm.wf
  | .subGbEb _ rm => rm.wf
  | .subGvEv _ rm => rm.wf
  | .subALIb _ => true
  | .subAXIv _ => true
  | .xorEbGb rm _ => rm.wf
  | .xorEvGv rm _ => rm.wf
  | .xorGbEb _ rm => rm.wf
  | .xorGvEv _ rm => rm.wf
  | .xorALIb _ => true
  | .xorAXIv _ => true
  | .cmpEbGb rm _ => rm.wf
  | .cmpEvGv rm _ => rm.wf
  | .cmpGbEb _ rm => rm.wf
  | .cmpGvEv _ rm => rm.wf
  | .cmpALIb _ => true
  | .cmpAXIv _ => true
  | .incReg16 _ => true
  | .decReg16 _ => true
  | .pushReg16 _ => true
  | .popReg16 _ => true
  | .jcc60 _ _ => true
  | .jcc _ _ => true
  | .addEbIb rm _ => rm.wf
  | .orEbIb rm _ => rm.wf
  | .adcEbIb rm _ => rm.wf
  | .sbbEbIb rm _ => rm.wf
  | .andEbIb rm _ => rm.wf
  | .subEbIb rm _ => rm.wf
  | .xorEbIb rm _ => rm.wf
  | .cmpEbIb rm _ => rm.wf
  | .addEvIv rm _ => rm.wf
  | .orEvIv rm _ => rm.wf
  | .adcEvIv rm _ => rm.wf
  | .sbbEvIv rm _ => rm.wf
  | .andEvIv rm _ => rm.wf
  | .subEvIv rm _ => rm.wf
  | .xorEvIv rm _ => rm.wf
  | .cmpEvIv rm _ => rm.wf
  | .addEbIb82 rm _ => rm.wf
  | .orEbIb82 rm _ => rm.wf
  | .adcEbIb82 rm _ => rm.wf
  | .sbbEbIb82 rm _ => rm.wf
  | .andEbIb82 rm _ => rm.wf
  | .subEbIb82 rm _ => rm.wf
  | .xorEbIb82 rm _ => rm.wf
  | .cmpEbIb82 rm _ => rm.wf
  | .addEvIbs rm _ => rm.wf
  | .orEvIbs rm _ => rm.wf
  | .adcEvIbs rm _ => rm.wf
  | .sbbEvIbs rm _ => rm.wf
  | .andEvIbs rm _ => rm.wf
  | .subEvIbs rm _ => rm.wf
  | .xorEvIbs rm _ => rm.wf
  | .cmpEvIbs rm _ => rm.wf
  | .testEbGb rm _ => rm.wf
  | .testEvGv rm _ => rm.wf
  | .xchgEbGb rm _ => rm.wf
  | .xchgEvGv rm _ => rm.wf
  | .movEbGb rm _ => rm.wf
  | .movEvGv rm _ => rm.wf
  | .movGbEb _ rm => rm.wf
  | .movGvEv _ rm => rm.wf
  | .movEwSw rm _ => rm.wf
  | .movEwSwHi rm _ => rm.wf
  | .lea _ m => m.wf
  | .undefLea _ _ => true
  | .movSwEw _ rm => rm.wf
  | .movSwEwHi _ rm => rm.wf
  | .popEv rm => rm.wf
  | .undef8F1 rm => rm.wf
  | .undef8F2 rm => rm.wf
  | .undef8F3 rm => rm.wf
  | .undef8F4 rm => rm.wf
  | .undef8F5 rm => rm.wf
  | .undef8F6 rm => rm.wf
  | .undef8F7 rm => rm.wf
  | .callAp _ _ => true
  | .movALOb _ => true
  | .movAXOv _ => true
  | .movObAL _ => true
  | .movOvAX _ => true
  | .testALIb _ => true
  | .testAXIv _ => true
  | .movReg8Ib _ _ => true
  | .movReg16Iv _ _ => true
  | .retIwC0 _ => true
  | .retIw _ => true
  | .les _ m => m.wf
  | .undefLes _ _ => true
  | .lds _ m => m.wf
  | .undefLds _ _ => true
  | .movEbIb rm _ => rm.wf
  | .undefC61 rm _ => rm.wf
  | .undefC62 rm _ => rm.wf
  | .undefC63 rm _ => rm.wf
  | .undefC64 rm _ => rm.wf
  | .undefC65 rm _ => rm.wf
  | .undefC66 rm _ => rm.wf
  | .undefC67 rm _ => rm.wf
  | .movEvIv rm _ => rm.wf
  | .undefC71 rm _ => rm.wf
  | .undefC72 rm _ => rm.wf
  | .undefC73 rm _ => rm.wf
  | .undefC74 rm _ => rm.wf
  | .undefC75 rm _ => rm.wf
  | .undefC76 rm _ => rm.wf
  | .undefC77 rm _ => rm.wf
  | .retfIwC8 _ => true
  | .retfIw _ => true
  | .intIb _ => true
  | .rolEb1 rm => rm.wf
  | .rorEb1 rm => rm.wf
  | .rclEb1 rm => rm.wf
  | .rcrEb1 rm => rm.wf
  | .shlEb1 rm => rm.wf
  | .shrEb1 rm => rm.wf
  | .undefD06 rm => rm.wf
  | .sarEb1 rm => rm.wf
  | .rolEv1 rm => rm.wf
  | .rorEv1 rm => rm.wf
  | .rclEv1 rm => rm.wf
  | .rcrEv1 rm => rm.wf
  | .shlEv1 rm => rm.wf
  | .shrEv1 rm => rm.wf
  | .undefD16 rm => rm.wf
  | .sarEv1 rm => rm.wf
  | .rolEbCL rm => rm.wf
  | .rorEbCL rm => rm.wf
  | .rclEbCL rm => rm.wf
  | .rcrEbCL rm => rm.wf
  | .shlEbCL rm => rm.wf
  | .shrEbCL rm => rm.wf
  | .undefD26 rm => rm.wf
  | .sarEbCL rm => rm.wf
  | .rolEvCL rm => rm.wf
  | .rorEvCL rm => rm.wf
  | .rclEvCL rm => rm.wf
  | .rcrEvCL rm => rm.wf
  | .shlEvCL rm => rm.wf
  | .shrEvCL rm => rm.wf
  | .undefD36 rm => rm.wf
  | .sarEvCL rm => rm.wf
  | .aam _ => true
  | .aad _ => true
  | .esc _ _ rm => rm.wf
  | .loopne _ => true
  | .loope _ => true
  | .loop _ => true
  | .jcxz _ => true
  | .inALIb _ => true
  | .inAXIb _ => true
  | .outIbAL _ => true
  | .outIbAX _ => true
  | .callJv _ => true
  | .jmpJv _ => true
  | .jmpAp _ _ => true
  | .jmpJb _ => true
  | .testEbIb rm _ => rm.wf
  | .testEbIb1 rm _ => rm.wf
  | .notEb rm => rm.wf
  | .negEb rm => rm.wf
  | .mulEb rm => rm.wf
  | .imulEb rm => rm.wf
  | .divEb rm => rm.wf
  | .idivEb rm => rm.wf
  | .testEvIv rm _ => rm.wf
  | .testEvIv1 rm _ => rm.wf
  | .notEv rm => rm.wf
  | .negEv rm => rm.wf
  | .mulEv rm => rm.wf
  | .imulEv rm => rm.wf
  | .divEv rm => rm.wf
  | .idivEv rm => rm.wf
  | .incEb rm => rm.wf
  | .decEb rm => rm.wf
  | .undefFE2 rm => rm.wf
  | .undefFE3 rm => rm.wf
  | .undefFE4 rm => rm.wf
  | .undefFE5 rm => rm.wf
  | .undefFE6 rm => rm.wf
  | .undefFE7 rm => rm.wf
  | .incEv rm => rm.wf
  | .decEv rm => rm.wf
  | .callEv rm => rm.wf
  | .callMp m => m.wf
  | .undefFF3 _ => true
  | .jmpEv rm => rm.wf
  | .jmpMp m => m.wf
  | .undefFF5 _ => true
  | .pushEv rm => rm.wf
  | .undefFF7 rm => rm.wf
  | .pushES => true
  | .popES => true
  | .segES => true
  | .pushCS => true
  | .popCS => true
  | .segCS => true
  | .pushSS => true
  | .popSS => true
  | .segSS => true
  | .pushDS => true
  | .popDS => true
  | .segDS => true
  | .daa => true
  | .das => true
  | .aaa => true
  | .aas => true
  | .nop => true
  | .xchgAXCX => true
  | .xchgAXDX => true
  | .xchgAXBX => true
  | .xchgAXSP => true
  | .xchgAXBP => true
  | .xchgAXSI => true
  | .xchgAXDI => true
  | .cbw => true
  | .cwd => true
  | .wait => true
  | .pushf => true
  | .popf => true
  | .sahf => true
  | .lahf => true
  | .movsb => true
  | .movsw => true
  | .cmpsb => true
  | .cmpsw => true
  | .stosb => true
  | .stosw => true
  | .lodsb => true
  | .lodsw => true
  | .scasb => true
  | .scasw => true
  | .retC1 => true
  | .ret => true
  | .retfC9 => true
  | .retf => true
  | .int3 => true
  | .into => true
  | .iret => true
  | .salc => true
  | .xlat => true
  | .inALDX => true
  | .inAXDX => true
  | .outDXAL => true
  | .outDXAX => true
  | .lock => true
  | .lockF1 => true
  | .repne => true
  | .rep => true
  | .hlt => true
  | .cmc => true
  | .clc => true
  | .stc => true
  | .cli => true
  | .sti => true
  | .cld => true
  | .std => true

end Sys2Proof
end

