-- ==== Sys2Proof/Decode.lean ====
section
/-!
DEFINITION. Decoding and encoding (30_encoding.md R120 to R157).
`decode` reads one instruction (or one mark that comes before one) from a list of bytes and gives back the bytes it did not
take; it rejects only a list that ends inside an instruction, since every opcode byte has a row in the table (R140, R147).
The opcode byte is read as octal digits, which is how the map is laid out.
-/
namespace Sys2Proof

/-- Why bytes are no instruction: they end before the instruction does (30_encoding.md R129). -/
inductive DecodeError where
  | truncated
deriving DecidableEq, Repr

/-- What the decoder answers. -/
inductive Decoded where
  | ok (i : Instr) (rest : List Byte)
  | rejected (why : DecodeError)
deriving DecidableEq, Repr

/-- A part of the decoder: it reads bytes and answers. -/
abbrev Parse := List Byte → Decoded

/-- The three-bit field that a number names, modulo 8. -/
def Oct.ofNum (n : Nat) : Oct :=
  match n % 8 with
  | 0 => .o0 | 1 => .o1 | 2 => .o2 | 3 => .o3 | 4 => .o4 | 5 => .o5 | 6 => .o6 | _ => .o7

/-- The number a three-bit field holds. -/
def Oct.toNat : Oct → Nat
  | .o0 => 0 | .o1 => 1 | .o2 => 2 | .o3 => 3 | .o4 => 4 | .o5 => 5 | .o6 => 6 | .o7 => 7

/-- `reg8[i]` as a name (30_encoding.md R126). -/
def Oct.r8 : Oct → Reg8
  | .o0 => .al | .o1 => .cl | .o2 => .dl | .o3 => .bl | .o4 => .ah | .o5 => .ch | .o6 => .dh | .o7 => .bh

/-- `reg16[i]` as a name (30_encoding.md R126). -/
def Oct.r16 : Oct → Reg16
  | .o0 => .ax | .o1 => .cx | .o2 => .dx | .o3 => .bx | .o4 => .sp | .o5 => .bp | .o6 => .si | .o7 => .di

/-- `sreg[i[1:0]]` as a name: bit 2 is ignored (30_encoding.md R146). -/
def Oct.sreg : Oct → SReg
  | .o0 | .o4 => .es | .o1 | .o5 => .cs | .o2 | .o6 => .ss | .o3 | .o7 => .ds

/-- Bit 2 of the field is set: the undocumented spelling of a segment register (30_encoding.md R146). -/
def Oct.isHigh : Oct → Bool
  | .o4 | .o5 | .o6 | .o7 => true
  | .o0 | .o1 | .o2 | .o3 => false

/-- The base that `rm` names (30_encoding.md R125). -/
def Oct.base : Oct → Base
  | .o0 => .bxsi | .o1 => .bxdi | .o2 => .bpsi | .o3 => .bpdi | .o4 => .si | .o5 => .di | .o6 => .bp | .o7 => .bx

/-- The register number of an 8-bit register. -/
def Reg8.oct : Reg8 → Oct
  | .al => .o0 | .cl => .o1 | .dl => .o2 | .bl => .o3 | .ah => .o4 | .ch => .o5 | .dh => .o6 | .bh => .o7

/-- The register number of a 16-bit register. -/
def Reg16.oct : Reg16 → Oct
  | .ax => .o0 | .cx => .o1 | .dx => .o2 | .bx => .o3 | .sp => .o4 | .bp => .o5 | .si => .o6 | .di => .o7

/-- The register number of a segment register. -/
def SReg.oct : SReg → Oct
  | .es => .o0 | .cs => .o1 | .ss => .o2 | .ds => .o3

/-- The undocumented number of a segment register, bit 2 set (30_encoding.md R150). -/
def SReg.octHigh : SReg → Oct
  | .es => .o4 | .cs => .o5 | .ss => .o6 | .ds => .o7

/-- The `rm` value of a base. -/
def Base.oct : Base → Oct
  | .bxsi => .o0 | .bxdi => .o1 | .bpsi => .o2 | .bpdi => .o3 | .si => .o4 | .di => .o5 | .bp => .o6 | .bx => .o7

/-- The condition with a given number (44_control_transfer.md R300), modulo 16. -/
def Cond.ofNum (n : Nat) : Cond :=
  match n % 16 with
  | 0 => .o | 1 => .no | 2 => .b | 3 => .nb | 4 => .z | 5 => .nz | 6 => .be | 7 => .a
  | 8 => .s | 9 => .ns | 10 => .p | 11 => .np | 12 => .l | 13 => .ge | 14 => .le | _ => .g

/-- The number of a condition (44_control_transfer.md R300). -/
def Cond.toNat : Cond → Nat
  | .o => 0 | .no => 1 | .b => 2 | .nb => 3 | .z => 4 | .nz => 5 | .be => 6 | .a => 7
  | .s => 8 | .ns => 9 | .p => 10 | .np => 11 | .l => 12 | .ge => 13 | .le => 14 | .g => 15

/-- Rename the register of an `r/m` operand. -/
def RM.map {R S : Type} (f : R → S) : RM R → RM S
  | .reg r => .reg (f r)
  | .mem m => .mem m

/-- The `r/m` operand as a byte operand. -/
def RM.r8 (e : RM Oct) : RM8 := e.map Oct.r8

/-- The `r/m` operand as a word operand. -/
def RM.r16 (e : RM Oct) : RM16 := e.map Oct.r16

/-- The instruction is complete. -/
def emit (i : Instr) : Parse := fun bs => .ok i bs

/-- Read one byte. -/
def withByte (k : Byte → Parse) : Parse
  | [] => .rejected .truncated
  | b :: bs => k b bs

/-- Read a word, low byte first (30_encoding.md R127). -/
def withWord (k : Word → Parse) : Parse :=
  withByte fun lo => withByte fun hi => k (joinBytes hi lo)

/-- Read a ModRM byte and its displacement (30_encoding.md R124, R125). -/
def withModRM (k : Oct → RM Oct → Parse) : Parse :=
  withByte fun b =>
    let reg := Oct.ofNum (b.toNat / 8)
    let rm := Oct.ofNum b.toNat
    match b.toNat / 64 with
    | 0 => if rm = .o6 then withWord fun d => k reg (.mem (.direct d)) else k reg (.mem (.noDisp rm.base))
    | 1 => withByte fun d => k reg (.mem (.disp8 rm.base d))
    | 2 => withWord fun d => k reg (.mem (.disp16 rm.base d))
    | _ => k reg (.reg rm)

/-- Opcode 80, by ModRM `reg` (30_encoding.md R141 to R146). -/
def group80 (g : Oct) (e : RM Oct) : Parse :=
  match g with
  | .o0 => withByte fun b => emit (.addEbIb e.r8 b)
  | .o1 => withByte fun b => emit (.orEbIb e.r8 b)
  | .o2 => withByte fun b => emit (.adcEbIb e.r8 b)
  | .o3 => withByte fun b => emit (.sbbEbIb e.r8 b)
  | .o4 => withByte fun b => emit (.andEbIb e.r8 b)
  | .o5 => withByte fun b => emit (.subEbIb e.r8 b)
  | .o6 => withByte fun b => emit (.xorEbIb e.r8 b)
  | .o7 => withByte fun b => emit (.cmpEbIb e.r8 b)

/-- Opcode 81, by ModRM `reg` (30_encoding.md R141 to R146). -/
def group81 (g : Oct) (e : RM Oct) : Parse :=
  match g with
  | .o0 => withWord fun w => emit (.addEvIv e.r16 w)
  | .o1 => withWord fun w => emit (.orEvIv e.r16 w)
  | .o2 => withWord fun w => emit (.adcEvIv e.r16 w)
  | .o3 => withWord fun w => emit (.sbbEvIv e.r16 w)
  | .o4 => withWord fun w => emit (.andEvIv e.r16 w)
  | .o5 => withWord fun w => emit (.subEvIv e.r16 w)
  | .o6 => withWord fun w => emit (.xorEvIv e.r16 w)
  | .o7 => withWord fun w => emit (.cmpEvIv e.r16 w)

/-- Opcode 82, by ModRM `reg` (30_encoding.md R141 to R146). -/
def group82 (g : Oct) (e : RM Oct) : Parse :=
  match g with
  | .o0 => withByte fun b => emit (.addEbIb82 e.r8 b)
  | .o1 => withByte fun b => emit (.orEbIb82 e.r8 b)
  | .o2 => withByte fun b => emit (.adcEbIb82 e.r8 b)
  | .o3 => withByte fun b => emit (.sbbEbIb82 e.r8 b)
  | .o4 => withByte fun b => emit (.andEbIb82 e.r8 b)
  | .o5 => withByte fun b => emit (.subEbIb82 e.r8 b)
  | .o6 => withByte fun b => emit (.xorEbIb82 e.r8 b)
  | .o7 => withByte fun b => emit (.cmpEbIb82 e.r8 b)

/-- Opcode 83, by ModRM `reg` (30_encoding.md R141 to R146). -/
def group83 (g : Oct) (e : RM Oct) : Parse :=
  match g with
  | .o0 => withByte fun b => emit (.addEvIbs e.r16 b)
  | .o1 => withByte fun b => emit (.orEvIbs e.r16 b)
  | .o2 => withByte fun b => emit (.adcEvIbs e.r16 b)
  | .o3 => withByte fun b => emit (.sbbEvIbs e.r16 b)
  | .o4 => withByte fun b => emit (.andEvIbs e.r16 b)
  | .o5 => withByte fun b => emit (.subEvIbs e.r16 b)
  | .o6 => withByte fun b => emit (.xorEvIbs e.r16 b)
  | .o7 => withByte fun b => emit (.cmpEvIbs e.r16 b)

/-- Opcode 8F, by ModRM `reg` (30_encoding.md R141 to R146). -/
def group8F (g : Oct) (e : RM Oct) : Parse :=
  match g with
  | .o0 => emit (.popEv e.r16)
  | .o1 => emit (.undef8F1 e.r16)
  | .o2 => emit (.undef8F2 e.r16)
  | .o3 => emit (.undef8F3 e.r16)
  | .o4 => emit (.undef8F4 e.r16)
  | .o5 => emit (.undef8F5 e.r16)
  | .o6 => emit (.undef8F6 e.r16)
  | .o7 => emit (.undef8F7 e.r16)

/-- Opcode C6, by ModRM `reg` (30_encoding.md R141 to R146). -/
def groupC6 (g : Oct) (e : RM Oct) : Parse :=
  match g with
  | .o0 => withByte fun b => emit (.movEbIb e.r8 b)
  | .o1 => withByte fun b => emit (.undefC61 e.r8 b)
  | .o2 => withByte fun b => emit (.undefC62 e.r8 b)
  | .o3 => withByte fun b => emit (.undefC63 e.r8 b)
  | .o4 => withByte fun b => emit (.undefC64 e.r8 b)
  | .o5 => withByte fun b => emit (.undefC65 e.r8 b)
  | .o6 => withByte fun b => emit (.undefC66 e.r8 b)
  | .o7 => withByte fun b => emit (.undefC67 e.r8 b)

/-- Opcode C7, by ModRM `reg` (30_encoding.md R141 to R146). -/
def groupC7 (g : Oct) (e : RM Oct) : Parse :=
  match g with
  | .o0 => withWord fun w => emit (.movEvIv e.r16 w)
  | .o1 => withWord fun w => emit (.undefC71 e.r16 w)
  | .o2 => withWord fun w => emit (.undefC72 e.r16 w)
  | .o3 => withWord fun w => emit (.undefC73 e.r16 w)
  | .o4 => withWord fun w => emit (.undefC74 e.r16 w)
  | .o5 => withWord fun w => emit (.undefC75 e.r16 w)
  | .o6 => withWord fun w => emit (.undefC76 e.r16 w)
  | .o7 => withWord fun w => emit (.undefC77 e.r16 w)

/-- Opcode D0, by ModRM `reg` (30_encoding.md R141 to R146). -/
def groupD0 (g : Oct) (e : RM Oct) : Parse :=
  match g with
  | .o0 => emit (.rolEb1 e.r8)
  | .o1 => emit (.rorEb1 e.r8)
  | .o2 => emit (.rclEb1 e.r8)
  | .o3 => emit (.rcrEb1 e.r8)
  | .o4 => emit (.shlEb1 e.r8)
  | .o5 => emit (.shrEb1 e.r8)
  | .o6 => emit (.undefD06 e.r8)
  | .o7 => emit (.sarEb1 e.r8)

/-- Opcode D1, by ModRM `reg` (30_encoding.md R141 to R146). -/
def groupD1 (g : Oct) (e : RM Oct) : Parse :=
  match g with
  | .o0 => emit (.rolEv1 e.r16)
  | .o1 => emit (.rorEv1 e.r16)
  | .o2 => emit (.rclEv1 e.r16)
  | .o3 => emit (.rcrEv1 e.r16)
  | .o4 => emit (.shlEv1 e.r16)
  | .o5 => emit (.shrEv1 e.r16)
  | .o6 => emit (.undefD16 e.r16)
  | .o7 => emit (.sarEv1 e.r16)

/-- Opcode D2, by ModRM `reg` (30_encoding.md R141 to R146). -/
def groupD2 (g : Oct) (e : RM Oct) : Parse :=
  match g with
  | .o0 => emit (.rolEbCL e.r8)
  | .o1 => emit (.rorEbCL e.r8)
  | .o2 => emit (.rclEbCL e.r8)
  | .o3 => emit (.rcrEbCL e.r8)
  | .o4 => emit (.shlEbCL e.r8)
  | .o5 => emit (.shrEbCL e.r8)
  | .o6 => emit (.undefD26 e.r8)
  | .o7 => emit (.sarEbCL e.r8)

/-- Opcode D3, by ModRM `reg` (30_encoding.md R141 to R146). -/
def groupD3 (g : Oct) (e : RM Oct) : Parse :=
  match g with
  | .o0 => emit (.rolEvCL e.r16)
  | .o1 => emit (.rorEvCL e.r16)
  | .o2 => emit (.rclEvCL e.r16)
  | .o3 => emit (.rcrEvCL e.r16)
  | .o4 => emit (.shlEvCL e.r16)
  | .o5 => emit (.shrEvCL e.r16)
  | .o6 => emit (.undefD36 e.r16)
  | .o7 => emit (.sarEvCL e.r16)

/-- Opcode F6, by ModRM `reg` (30_encoding.md R141 to R146). -/
def groupF6 (g : Oct) (e : RM Oct) : Parse :=
  match g with
  | .o0 => withByte fun b => emit (.testEbIb e.r8 b)
  | .o1 => withByte fun b => emit (.testEbIb1 e.r8 b)
  | .o2 => emit (.notEb e.r8)
  | .o3 => emit (.negEb e.r8)
  | .o4 => emit (.mulEb e.r8)
  | .o5 => emit (.imulEb e.r8)
  | .o6 => emit (.divEb e.r8)
  | .o7 => emit (.idivEb e.r8)

/-- Opcode F7, by ModRM `reg` (30_encoding.md R141 to R146). -/
def groupF7 (g : Oct) (e : RM Oct) : Parse :=
  match g with
  | .o0 => withWord fun w => emit (.testEvIv e.r16 w)
  | .o1 => withWord fun w => emit (.testEvIv1 e.r16 w)
  | .o2 => emit (.notEv e.r16)
  | .o3 => emit (.negEv e.r16)
  | .o4 => emit (.mulEv e.r16)
  | .o5 => emit (.imulEv e.r16)
  | .o6 => emit (.divEv e.r16)
  | .o7 => emit (.idivEv e.r16)

/-- Opcode FE, by ModRM `reg` (30_encoding.md R141 to R146). -/
def groupFE (g : Oct) (e : RM Oct) : Parse :=
  match g with
  | .o0 => emit (.incEb e.r8)
  | .o1 => emit (.decEb e.r8)
  | .o2 => emit (.undefFE2 e.r8)
  | .o3 => emit (.undefFE3 e.r8)
  | .o4 => emit (.undefFE4 e.r8)
  | .o5 => emit (.undefFE5 e.r8)
  | .o6 => emit (.undefFE6 e.r8)
  | .o7 => emit (.undefFE7 e.r8)

/-- Opcode FF, by ModRM `reg` (30_encoding.md R141 to R146). -/
def groupFF (g : Oct) (e : RM Oct) : Parse :=
  match g with
  | .o0 => emit (.incEv e.r16)
  | .o1 => emit (.decEv e.r16)
  | .o2 => emit (.callEv e.r16)
  | .o3 => match e with | .mem m => emit (.callMp m) | .reg r => emit (.undefFF3 r.r16)
  | .o4 => emit (.jmpEv e.r16)
  | .o5 => match e with | .mem m => emit (.jmpMp m) | .reg r => emit (.undefFF5 r.r16)
  | .o6 => emit (.pushEv e.r16)
  | .o7 => emit (.undefFF7 e.r16)

/-- Opcodes 00 to 3F, by the opcode's middle and low three bits (30_encoding.md R140). -/
def decodeQuarter0 (m l : Oct) : Parse :=
  match m, l with
  | .o0, .o0 => withModRM fun g e => emit (.addEbGb e.r8 g.r8)
  | .o0, .o1 => withModRM fun g e => emit (.addEvGv e.r16 g.r16)
  | .o0, .o2 => withModRM fun g e => emit (.addGbEb g.r8 e.r8)
  | .o0, .o3 => withModRM fun g e => emit (.addGvEv g.r16 e.r16)
  | .o0, .o4 => withByte fun b => emit (.addALIb b)
  | .o0, .o5 => withWord fun w => emit (.addAXIv w)
  | .o0, .o6 => emit .pushES
  | .o0, .o7 => emit .popES
  | .o1, .o0 => withModRM fun g e => emit (.orEbGb e.r8 g.r8)
  | .o1, .o1 => withModRM fun g e => emit (.orEvGv e.r16 g.r16)
  | .o1, .o2 => withModRM fun g e => emit (.orGbEb g.r8 e.r8)
  | .o1, .o3 => withModRM fun g e => emit (.orGvEv g.r16 e.r16)
  | .o1, .o4 => withByte fun b => emit (.orALIb b)
  | .o1, .o5 => withWord fun w => emit (.orAXIv w)
  | .o1, .o6 => emit .pushCS
  | .o1, .o7 => emit .popCS
  | .o2, .o0 => withModRM fun g e => emit (.adcEbGb e.r8 g.r8)
  | .o2, .o1 => withModRM fun g e => emit (.adcEvGv e.r16 g.r16)
  | .o2, .o2 => withModRM fun g e => emit (.adcGbEb g.r8 e.r8)
  | .o2, .o3 => withModRM fun g e => emit (.adcGvEv g.r16 e.r16)
  | .o2, .o4 => withByte fun b => emit (.adcALIb b)
  | .o2, .o5 => withWord fun w => emit (.adcAXIv w)
  | .o2, .o6 => emit .pushSS
  | .o2, .o7 => emit .popSS
  | .o3, .o0 => withModRM fun g e => emit (.sbbEbGb e.r8 g.r8)
  | .o3, .o1 => withModRM fun g e => emit (.sbbEvGv e.r16 g.r16)
  | .o3, .o2 => withModRM fun g e => emit (.sbbGbEb g.r8 e.r8)
  | .o3, .o3 => withModRM fun g e => emit (.sbbGvEv g.r16 e.r16)
  | .o3, .o4 => withByte fun b => emit (.sbbALIb b)
  | .o3, .o5 => withWord fun w => emit (.sbbAXIv w)
  | .o3, .o6 => emit .pushDS
  | .o3, .o7 => emit .popDS
  | .o4, .o0 => withModRM fun g e => emit (.andEbGb e.r8 g.r8)
  | .o4, .o1 => withModRM fun g e => emit (.andEvGv e.r16 g.r16)
  | .o4, .o2 => withModRM fun g e => emit (.andGbEb g.r8 e.r8)
  | .o4, .o3 => withModRM fun g e => emit (.andGvEv g.r16 e.r16)
  | .o4, .o4 => withByte fun b => emit (.andALIb b)
  | .o4, .o5 => withWord fun w => emit (.andAXIv w)
  | .o4, .o6 => emit .segES
  | .o4, .o7 => emit .daa
  | .o5, .o0 => withModRM fun g e => emit (.subEbGb e.r8 g.r8)
  | .o5, .o1 => withModRM fun g e => emit (.subEvGv e.r16 g.r16)
  | .o5, .o2 => withModRM fun g e => emit (.subGbEb g.r8 e.r8)
  | .o5, .o3 => withModRM fun g e => emit (.subGvEv g.r16 e.r16)
  | .o5, .o4 => withByte fun b => emit (.subALIb b)
  | .o5, .o5 => withWord fun w => emit (.subAXIv w)
  | .o5, .o6 => emit .segCS
  | .o5, .o7 => emit .das
  | .o6, .o0 => withModRM fun g e => emit (.xorEbGb e.r8 g.r8)
  | .o6, .o1 => withModRM fun g e => emit (.xorEvGv e.r16 g.r16)
  | .o6, .o2 => withModRM fun g e => emit (.xorGbEb g.r8 e.r8)
  | .o6, .o3 => withModRM fun g e => emit (.xorGvEv g.r16 e.r16)
  | .o6, .o4 => withByte fun b => emit (.xorALIb b)
  | .o6, .o5 => withWord fun w => emit (.xorAXIv w)
  | .o6, .o6 => emit .segSS
  | .o6, .o7 => emit .aaa
  | .o7, .o0 => withModRM fun g e => emit (.cmpEbGb e.r8 g.r8)
  | .o7, .o1 => withModRM fun g e => emit (.cmpEvGv e.r16 g.r16)
  | .o7, .o2 => withModRM fun g e => emit (.cmpGbEb g.r8 e.r8)
  | .o7, .o3 => withModRM fun g e => emit (.cmpGvEv g.r16 e.r16)
  | .o7, .o4 => withByte fun b => emit (.cmpALIb b)
  | .o7, .o5 => withWord fun w => emit (.cmpAXIv w)
  | .o7, .o6 => emit .segDS
  | .o7, .o7 => emit .aas

/-- Opcodes 40 to 7F, by the opcode's middle and low three bits (30_encoding.md R140). -/
def decodeQuarter1 (m l : Oct) : Parse :=
  match m, l with
  | .o0, r => emit (.incReg16 r.r16)
  | .o1, r => emit (.decReg16 r.r16)
  | .o2, r => emit (.pushReg16 r.r16)
  | .o3, r => emit (.popReg16 r.r16)
  | .o4, c => withByte fun b => emit (.jcc60 (Cond.ofNum (0 + c.toNat)) b)
  | .o5, c => withByte fun b => emit (.jcc60 (Cond.ofNum (8 + c.toNat)) b)
  | .o6, c => withByte fun b => emit (.jcc (Cond.ofNum (0 + c.toNat)) b)
  | .o7, c => withByte fun b => emit (.jcc (Cond.ofNum (8 + c.toNat)) b)

/-- Opcodes 80 to BF, by the opcode's middle and low three bits (30_encoding.md R140). -/
def decodeQuarter2 (m l : Oct) : Parse :=
  match m, l with
  | .o0, .o0 => withModRM group80
  | .o0, .o1 => withModRM group81
  | .o0, .o2 => withModRM group82
  | .o0, .o3 => withModRM group83
  | .o0, .o4 => withModRM fun g e => emit (.testEbGb e.r8 g.r8)
  | .o0, .o5 => withModRM fun g e => emit (.testEvGv e.r16 g.r16)
  | .o0, .o6 => withModRM fun g e => emit (.xchgEbGb e.r8 g.r8)
  | .o0, .o7 => withModRM fun g e => emit (.xchgEvGv e.r16 g.r16)
  | .o1, .o0 => withModRM fun g e => emit (.movEbGb e.r8 g.r8)
  | .o1, .o1 => withModRM fun g e => emit (.movEvGv e.r16 g.r16)
  | .o1, .o2 => withModRM fun g e => emit (.movGbEb g.r8 e.r8)
  | .o1, .o3 => withModRM fun g e => emit (.movGvEv g.r16 e.r16)
  | .o1, .o4 => withModRM fun g e => emit (if g.isHigh then .movEwSwHi e.r16 g.sreg else .movEwSw e.r16 g.sreg)
  | .o1, .o5 => withModRM fun g e => match e with | .mem m => emit (.lea g.r16 m) | .reg r => emit (.undefLea g.r16 r.r16)
  | .o1, .o6 => withModRM fun g e => emit (if g.isHigh then .movSwEwHi g.sreg e.r16 else .movSwEw g.sreg e.r16)
  | .o1, .o7 => withModRM group8F
  | .o2, .o0 => emit .nop
  | .o2, .o1 => emit .xchgAXCX
  | .o2, .o2 => emit .xchgAXDX
  | .o2, .o3 => emit .xchgAXBX
  | .o2, .o4 => emit .xchgAXSP
  | .o2, .o5 => emit .xchgAXBP
  | .o2, .o6 => emit .xchgAXSI
  | .o2, .o7 => emit .xchgAXDI
  | .o3, .o0 => emit .cbw
  | .o3, .o1 => emit .cwd
  | .o3, .o2 => withWord fun o => withWord fun s => emit (.callAp o s)
  | .o3, .o3 => emit .wait
  | .o3, .o4 => emit .pushf
  | .o3, .o5 => emit .popf
  | .o3, .o6 => emit .sahf
  | .o3, .o7 => emit .lahf
  | .o4, .o0 => withWord fun w => emit (.movALOb w)
  | .o4, .o1 => withWord fun w => emit (.movAXOv w)
  | .o4, .o2 => withWord fun w => emit (.movObAL w)
  | .o4, .o3 => withWord fun w => emit (.movOvAX w)
  | .o4, .o4 => emit .movsb
  | .o4, .o5 => emit .movsw
  | .o4, .o6 => emit .cmpsb
  | .o4, .o7 => emit .cmpsw
  | .o5, .o0 => withByte fun b => emit (.testALIb b)
  | .o5, .o1 => withWord fun w => emit (.testAXIv w)
  | .o5, .o2 => emit .stosb
  | .o5, .o3 => emit .stosw
  | .o5, .o4 => emit .lodsb
  | .o5, .o5 => emit .lodsw
  | .o5, .o6 => emit .scasb
  | .o5, .o7 => emit .scasw
  | .o6, r => withByte fun b => emit (.movReg8Ib r.r8 b)
  | .o7, r => withWord fun w => emit (.movReg16Iv r.r16 w)

/-- Opcodes C0 to FF, by the opcode's middle and low three bits (30_encoding.md R140). -/
def decodeQuarter3 (m l : Oct) : Parse :=
  match m, l with
  | .o0, .o0 => withWord fun w => emit (.retIwC0 w)
  | .o0, .o1 => emit .retC1
  | .o0, .o2 => withWord fun w => emit (.retIw w)
  | .o0, .o3 => emit .ret
  | .o0, .o4 => withModRM fun g e => match e with | .mem m => emit (.les g.r16 m) | .reg r => emit (.undefLes g.r16 r.r16)
  | .o0, .o5 => withModRM fun g e => match e with | .mem m => emit (.lds g.r16 m) | .reg r => emit (.undefLds g.r16 r.r16)
  | .o0, .o6 => withModRM groupC6
  | .o0, .o7 => withModRM groupC7
  | .o1, .o0 => withWord fun w => emit (.retfIwC8 w)
  | .o1, .o1 => emit .retfC9
  | .o1, .o2 => withWord fun w => emit (.retfIw w)
  | .o1, .o3 => emit .retf
  | .o1, .o4 => emit .int3
  | .o1, .o5 => withByte fun b => emit (.intIb b)
  | .o1, .o6 => emit .into
  | .o1, .o7 => emit .iret
  | .o2, .o0 => withModRM groupD0
  | .o2, .o1 => withModRM groupD1
  | .o2, .o2 => withModRM groupD2
  | .o2, .o3 => withModRM groupD3
  | .o2, .o4 => withByte fun b => emit (.aam b)
  | .o2, .o5 => withByte fun b => emit (.aad b)
  | .o2, .o6 => emit .salc
  | .o2, .o7 => emit .xlat
  | .o3, x => withModRM fun g e => emit (.esc x g e.r16)
  | .o4, .o0 => withByte fun b => emit (.loopne b)
  | .o4, .o1 => withByte fun b => emit (.loope b)
  | .o4, .o2 => withByte fun b => emit (.loop b)
  | .o4, .o3 => withByte fun b => emit (.jcxz b)
  | .o4, .o4 => withByte fun b => emit (.inALIb b)
  | .o4, .o5 => withByte fun b => emit (.inAXIb b)
  | .o4, .o6 => withByte fun b => emit (.outIbAL b)
  | .o4, .o7 => withByte fun b => emit (.outIbAX b)
  | .o5, .o0 => withWord fun w => emit (.callJv w)
  | .o5, .o1 => withWord fun w => emit (.jmpJv w)
  | .o5, .o2 => withWord fun o => withWord fun s => emit (.jmpAp o s)
  | .o5, .o3 => withByte fun b => emit (.jmpJb b)
  | .o5, .o4 => emit .inALDX
  | .o5, .o5 => emit .inAXDX
  | .o5, .o6 => emit .outDXAL
  | .o5, .o7 => emit .outDXAX
  | .o6, .o0 => emit .lock
  | .o6, .o1 => emit .lockF1
  | .o6, .o2 => emit .repne
  | .o6, .o3 => emit .rep
  | .o6, .o4 => emit .hlt
  | .o6, .o5 => emit .cmc
  | .o6, .o6 => withModRM groupF6
  | .o6, .o7 => withModRM groupF7
  | .o7, .o0 => emit .clc
  | .o7, .o1 => emit .stc
  | .o7, .o2 => emit .cli
  | .o7, .o3 => emit .sti
  | .o7, .o4 => emit .cld
  | .o7, .o5 => emit .std
  | .o7, .o6 => withModRM groupFE
  | .o7, .o7 => withModRM groupFF

/-- Read the rest of an instruction whose opcode byte is given (30_encoding.md R140). -/
def decodeOpcode (op : Byte) : Parse :=
  let m := Oct.ofNum (op.toNat / 8)
  let l := Oct.ofNum op.toNat
  match op.toNat / 64 with
  | 0 => decodeQuarter0 m l
  | 1 => decodeQuarter1 m l
  | 2 => decodeQuarter2 m l
  | _ => decodeQuarter3 m l

/-- Read one instruction, or one mark that comes before one (30_encoding.md R120, R122). -/
def decode : Parse := withByte decodeOpcode

/-- The longest instruction without its marks: opcode, ModRM, two displacement and two immediate bytes (30_encoding.md
R120, R129). -/
def longestInstr : Nat := 6

/-- The bytes of the instruction that spec/opcode_table.json's bit numbers describe: the table takes the opcode byte and the
byte after it as one 16-bit number with the opcode byte in bits 15:8 (30_encoding.md R157); later bytes count on from bit 16,
and every bit the table does not give is 0 (DEDUCED, log entry 4). -/
def tableBytes (nbits w : Nat) : List Byte :=
  if nbits ≤ 8 then
    [BitVec.ofNat 8 w, 0, 0, 0, 0, 0]
  else
    [BitVec.ofNat 8 (w / 2 ^ 8), BitVec.ofNat 8 w, BitVec.ofNat 8 (w / 2 ^ 16), BitVec.ofNat 8 (w / 2 ^ 24),
      BitVec.ofNat 8 (w / 2 ^ 32), BitVec.ofNat 8 (w / 2 ^ 40)]

/-- The instruction the decoder reads from a word of spec/opcode_table.json. -/
def decodeTableWord (nbits w : Nat) : Option Instr :=
  match decode (tableBytes nbits w) with
  | .ok i _ => some i
  | .rejected _ => none

/-! ## The encoder -/

/-- A word's two bytes, low byte first (30_encoding.md R127). -/
def wordBytes (w : Word) : List Byte := [loByte w, hiByte w]

/-- The ModRM byte with fields `mod`, `reg`, `rm` (30_encoding.md R124). -/
def modRMByte (mod : Nat) (reg rm : Oct) : Byte := BitVec.ofNat 8 (mod * 64 + reg.toNat * 8 + rm.toNat)

/-- The ModRM byte and displacement of an operand (30_encoding.md R125). -/
def modRM (reg : Oct) : RM Oct → List Byte
  | .reg r => [modRMByte 3 reg r]
  | .mem (.noDisp b) => [modRMByte 0 reg b.oct]
  | .mem (.direct d) => modRMByte 0 reg .o6 :: wordBytes d
  | .mem (.disp8 b d) => [modRMByte 1 reg b.oct, d]
  | .mem (.disp16 b d) => modRMByte 2 reg b.oct :: wordBytes d

/-- An opcode byte with a register number in its low three bits (30_encoding.md R123). -/
def opcodeWith (op : Byte) (r : Oct) : Byte := op + BitVec.ofNat 8 r.toNat

/-- The bytes of an instruction (30_encoding.md R140 to R146). -/
def encode (i : Instr) : List Byte :=
  match i with
  | .addEbGb rm reg => 0x00#8 :: modRM reg.oct (rm.map Reg8.oct)
  | .addEvGv rm reg => 0x01#8 :: modRM reg.oct (rm.map Reg16.oct)
  | .addGbEb reg rm => 0x02#8 :: modRM reg.oct (rm.map Reg8.oct)
  | .addGvEv reg rm => 0x03#8 :: modRM reg.oct (rm.map Reg16.oct)
  | .addALIb imm => [0x04#8, imm]
  | .addAXIv imm => 0x05#8 :: wordBytes imm
  | .orEbGb rm reg => 0x08#8 :: modRM reg.oct (rm.map Reg8.oct)
  | .orEvGv rm reg => 0x09#8 :: modRM reg.oct (rm.map Reg16.oct)
  | .orGbEb reg rm => 0x0A#8 :: modRM reg.oct (rm.map Reg8.oct)
  | .orGvEv reg rm => 0x0B#8 :: modRM reg.oct (rm.map Reg16.oct)
  | .orALIb imm => [0x0C#8, imm]
  | .orAXIv imm => 0x0D#8 :: wordBytes imm
  | .adcEbGb rm reg => 0x10#8 :: modRM reg.oct (rm.map Reg8.oct)
  | .adcEvGv rm reg => 0x11#8 :: modRM reg.oct (rm.map Reg16.oct)
  | .adcGbEb reg rm => 0x12#8 :: modRM reg.oct (rm.map Reg8.oct)
  | .adcGvEv reg rm => 0x13#8 :: modRM reg.oct (rm.map Reg16.oct)
  | .adcALIb imm => [0x14#8, imm]
  | .adcAXIv imm => 0x15#8 :: wordBytes imm
  | .sbbEbGb rm reg => 0x18#8 :: modRM reg.oct (rm.map Reg8.oct)
  | .sbbEvGv rm reg => 0x19#8 :: modRM reg.oct (rm.map Reg16.oct)
  | .sbbGbEb reg rm => 0x1A#8 :: modRM reg.oct (rm.map Reg8.oct)
  | .sbbGvEv reg rm => 0x1B#8 :: modRM reg.oct (rm.map Reg16.oct)
  | .sbbALIb imm => [0x1C#8, imm]
  | .sbbAXIv imm => 0x1D#8 :: wordBytes imm
  | .andEbGb rm reg => 0x20#8 :: modRM reg.oct (rm.map Reg8.oct)
  | .andEvGv rm reg => 0x21#8 :: modRM reg.oct (rm.map Reg16.oct)
  | .andGbEb reg rm => 0x22#8 :: modRM reg.oct (rm.map Reg8.oct)
  | .andGvEv reg rm => 0x23#8 :: modRM reg.oct (rm.map Reg16.oct)
  | .andALIb imm => [0x24#8, imm]
  | .andAXIv imm => 0x25#8 :: wordBytes imm
  | .subEbGb rm reg => 0x28#8 :: modRM reg.oct (rm.map Reg8.oct)
  | .subEvGv rm reg => 0x29#8 :: modRM reg.oct (rm.map Reg16.oct)
  | .subGbEb reg rm => 0x2A#8 :: modRM reg.oct (rm.map Reg8.oct)
  | .subGvEv reg rm => 0x2B#8 :: modRM reg.oct (rm.map Reg16.oct)
  | .subALIb imm => [0x2C#8, imm]
  | .subAXIv imm => 0x2D#8 :: wordBytes imm
  | .xorEbGb rm reg => 0x30#8 :: modRM reg.oct (rm.map Reg8.oct)
  | .xorEvGv rm reg => 0x31#8 :: modRM reg.oct (rm.map Reg16.oct)
  | .xorGbEb reg rm => 0x32#8 :: modRM reg.oct (rm.map Reg8.oct)
  | .xorGvEv reg rm => 0x33#8 :: modRM reg.oct (rm.map Reg16.oct)
  | .xorALIb imm => [0x34#8, imm]
  | .xorAXIv imm => 0x35#8 :: wordBytes imm
  | .cmpEbGb rm reg => 0x38#8 :: modRM reg.oct (rm.map Reg8.oct)
  | .cmpEvGv rm reg => 0x39#8 :: modRM reg.oct (rm.map Reg16.oct)
  | .cmpGbEb reg rm => 0x3A#8 :: modRM reg.oct (rm.map Reg8.oct)
  | .cmpGvEv reg rm => 0x3B#8 :: modRM reg.oct (rm.map Reg16.oct)
  | .cmpALIb imm => [0x3C#8, imm]
  | .cmpAXIv imm => 0x3D#8 :: wordBytes imm
  | .incReg16 r => [opcodeWith 0x40#8 r.oct]
  | .decReg16 r => [opcodeWith 0x48#8 r.oct]
  | .pushReg16 r => [opcodeWith 0x50#8 r.oct]
  | .popReg16 r => [opcodeWith 0x58#8 r.oct]
  | .jcc60 cc disp => [0x60#8 + BitVec.ofNat 8 cc.toNat, disp]
  | .jcc cc disp => [0x70#8 + BitVec.ofNat 8 cc.toNat, disp]
  | .addEbIb rm imm => 0x80#8 :: (modRM .o0 (rm.map Reg8.oct) ++ [imm])
  | .orEbIb rm imm => 0x80#8 :: (modRM .o1 (rm.map Reg8.oct) ++ [imm])
  | .adcEbIb rm imm => 0x80#8 :: (modRM .o2 (rm.map Reg8.oct) ++ [imm])
  | .sbbEbIb rm imm => 0x80#8 :: (modRM .o3 (rm.map Reg8.oct) ++ [imm])
  | .andEbIb rm imm => 0x80#8 :: (modRM .o4 (rm.map Reg8.oct) ++ [imm])
  | .subEbIb rm imm => 0x80#8 :: (modRM .o5 (rm.map Reg8.oct) ++ [imm])
  | .xorEbIb rm imm => 0x80#8 :: (modRM .o6 (rm.map Reg8.oct) ++ [imm])
  | .cmpEbIb rm imm => 0x80#8 :: (modRM .o7 (rm.map Reg8.oct) ++ [imm])
  | .addEvIv rm imm => 0x81#8 :: (modRM .o0 (rm.map Reg16.oct) ++ wordBytes imm)
  | .orEvIv rm imm => 0x81#8 :: (modRM .o1 (rm.map Reg16.oct) ++ wordBytes imm)
  | .adcEvIv rm imm => 0x81#8 :: (modRM .o2 (rm.map Reg16.oct) ++ wordBytes imm)
  | .sbbEvIv rm imm => 0x81#8 :: (modRM .o3 (rm.map Reg16.oct) ++ wordBytes imm)
  | .andEvIv rm imm => 0x81#8 :: (modRM .o4 (rm.map Reg16.oct) ++ wordBytes imm)
  | .subEvIv rm imm => 0x81#8 :: (modRM .o5 (rm.map Reg16.oct) ++ wordBytes imm)
  | .xorEvIv rm imm => 0x81#8 :: (modRM .o6 (rm.map Reg16.oct) ++ wordBytes imm)
  | .cmpEvIv rm imm => 0x81#8 :: (modRM .o7 (rm.map Reg16.oct) ++ wordBytes imm)
  | .addEbIb82 rm imm => 0x82#8 :: (modRM .o0 (rm.map Reg8.oct) ++ [imm])
  | .orEbIb82 rm imm => 0x82#8 :: (modRM .o1 (rm.map Reg8.oct) ++ [imm])
  | .adcEbIb82 rm imm => 0x82#8 :: (modRM .o2 (rm.map Reg8.oct) ++ [imm])
  | .sbbEbIb82 rm imm => 0x82#8 :: (modRM .o3 (rm.map Reg8.oct) ++ [imm])
  | .andEbIb82 rm imm => 0x82#8 :: (modRM .o4 (rm.map Reg8.oct) ++ [imm])
  | .subEbIb82 rm imm => 0x82#8 :: (modRM .o5 (rm.map Reg8.oct) ++ [imm])
  | .xorEbIb82 rm imm => 0x82#8 :: (modRM .o6 (rm.map Reg8.oct) ++ [imm])
  | .cmpEbIb82 rm imm => 0x82#8 :: (modRM .o7 (rm.map Reg8.oct) ++ [imm])
  | .addEvIbs rm imm => 0x83#8 :: (modRM .o0 (rm.map Reg16.oct) ++ [imm])
  | .orEvIbs rm imm => 0x83#8 :: (modRM .o1 (rm.map Reg16.oct) ++ [imm])
  | .adcEvIbs rm imm => 0x83#8 :: (modRM .o2 (rm.map Reg16.oct) ++ [imm])
  | .sbbEvIbs rm imm => 0x83#8 :: (modRM .o3 (rm.map Reg16.oct) ++ [imm])
  | .andEvIbs rm imm => 0x83#8 :: (modRM .o4 (rm.map Reg16.oct) ++ [imm])
  | .subEvIbs rm imm => 0x83#8 :: (modRM .o5 (rm.map Reg16.oct) ++ [imm])
  | .xorEvIbs rm imm => 0x83#8 :: (modRM .o6 (rm.map Reg16.oct) ++ [imm])
  | .cmpEvIbs rm imm => 0x83#8 :: (modRM .o7 (rm.map Reg16.oct) ++ [imm])
  | .testEbGb rm reg => 0x84#8 :: modRM reg.oct (rm.map Reg8.oct)
  | .testEvGv rm reg => 0x85#8 :: modRM reg.oct (rm.map Reg16.oct)
  | .xchgEbGb rm reg => 0x86#8 :: modRM reg.oct (rm.map Reg8.oct)
  | .xchgEvGv rm reg => 0x87#8 :: modRM reg.oct (rm.map Reg16.oct)
  | .movEbGb rm reg => 0x88#8 :: modRM reg.oct (rm.map Reg8.oct)
  | .movEvGv rm reg => 0x89#8 :: modRM reg.oct (rm.map Reg16.oct)
  | .movGbEb reg rm => 0x8A#8 :: modRM reg.oct (rm.map Reg8.oct)
  | .movGvEv reg rm => 0x8B#8 :: modRM reg.oct (rm.map Reg16.oct)
  | .movEwSw rm sr => 0x8C#8 :: modRM sr.oct (rm.map Reg16.oct)
  | .movEwSwHi rm sr => 0x8C#8 :: modRM sr.octHigh (rm.map Reg16.oct)
  | .lea reg m => 0x8D#8 :: modRM reg.oct (.mem m)
  | .undefLea reg rm => 0x8D#8 :: modRM reg.oct (.reg rm.oct)
  | .movSwEw sr rm => 0x8E#8 :: modRM sr.oct (rm.map Reg16.oct)
  | .movSwEwHi sr rm => 0x8E#8 :: modRM sr.octHigh (rm.map Reg16.oct)
  | .popEv rm => 0x8F#8 :: modRM .o0 (rm.map Reg16.oct)
  | .undef8F1 rm => 0x8F#8 :: modRM .o1 (rm.map Reg16.oct)
  | .undef8F2 rm => 0x8F#8 :: modRM .o2 (rm.map Reg16.oct)
  | .undef8F3 rm => 0x8F#8 :: modRM .o3 (rm.map Reg16.oct)
  | .undef8F4 rm => 0x8F#8 :: modRM .o4 (rm.map Reg16.oct)
  | .undef8F5 rm => 0x8F#8 :: modRM .o5 (rm.map Reg16.oct)
  | .undef8F6 rm => 0x8F#8 :: modRM .o6 (rm.map Reg16.oct)
  | .undef8F7 rm => 0x8F#8 :: modRM .o7 (rm.map Reg16.oct)
  | .callAp off seg => 0x9A#8 :: (wordBytes off ++ wordBytes seg)
  | .movALOb off => 0xA0#8 :: wordBytes off
  | .movAXOv off => 0xA1#8 :: wordBytes off
  | .movObAL off => 0xA2#8 :: wordBytes off
  | .movOvAX off => 0xA3#8 :: wordBytes off
  | .testALIb imm => [0xA8#8, imm]
  | .testAXIv imm => 0xA9#8 :: wordBytes imm
  | .movReg8Ib r imm => [opcodeWith 0xB0#8 r.oct, imm]
  | .movReg16Iv r imm => opcodeWith 0xB8#8 r.oct :: wordBytes imm
  | .retIwC0 imm => 0xC0#8 :: wordBytes imm
  | .retIw imm => 0xC2#8 :: wordBytes imm
  | .les reg m => 0xC4#8 :: modRM reg.oct (.mem m)
  | .undefLes reg rm => 0xC4#8 :: modRM reg.oct (.reg rm.oct)
  | .lds reg m => 0xC5#8 :: modRM reg.oct (.mem m)
  | .undefLds reg rm => 0xC5#8 :: modRM reg.oct (.reg rm.oct)
  | .movEbIb rm imm => 0xC6#8 :: (modRM .o0 (rm.map Reg8.oct) ++ [imm])
  | .undefC61 rm imm => 0xC6#8 :: (modRM .o1 (rm.map Reg8.oct) ++ [imm])
  | .undefC62 rm imm => 0xC6#8 :: (modRM .o2 (rm.map Reg8.oct) ++ [imm])
  | .undefC63 rm imm => 0xC6#8 :: (modRM .o3 (rm.map Reg8.oct) ++ [imm])
  | .undefC64 rm imm => 0xC6#8 :: (modRM .o4 (rm.map Reg8.oct) ++ [imm])
  | .undefC65 rm imm => 0xC6#8 :: (modRM .o5 (rm.map Reg8.oct) ++ [imm])
  | .undefC66 rm imm => 0xC6#8 :: (modRM .o6 (rm.map Reg8.oct) ++ [imm])
  | .undefC67 rm imm => 0xC6#8 :: (modRM .o7 (rm.map Reg8.oct) ++ [imm])
  | .movEvIv rm imm => 0xC7#8 :: (modRM .o0 (rm.map Reg16.oct) ++ wordBytes imm)
  | .undefC71 rm imm => 0xC7#8 :: (modRM .o1 (rm.map Reg16.oct) ++ wordBytes imm)
  | .undefC72 rm imm => 0xC7#8 :: (modRM .o2 (rm.map Reg16.oct) ++ wordBytes imm)
  | .undefC73 rm imm => 0xC7#8 :: (modRM .o3 (rm.map Reg16.oct) ++ wordBytes imm)
  | .undefC74 rm imm => 0xC7#8 :: (modRM .o4 (rm.map Reg16.oct) ++ wordBytes imm)
  | .undefC75 rm imm => 0xC7#8 :: (modRM .o5 (rm.map Reg16.oct) ++ wordBytes imm)
  | .undefC76 rm imm => 0xC7#8 :: (modRM .o6 (rm.map Reg16.oct) ++ wordBytes imm)
  | .undefC77 rm imm => 0xC7#8 :: (modRM .o7 (rm.map Reg16.oct) ++ wordBytes imm)
  | .retfIwC8 imm => 0xC8#8 :: wordBytes imm
  | .retfIw imm => 0xCA#8 :: wordBytes imm
  | .intIb imm => [0xCD#8, imm]
  | .rolEb1 rm => 0xD0#8 :: modRM .o0 (rm.map Reg8.oct)
  | .rorEb1 rm => 0xD0#8 :: modRM .o1 (rm.map Reg8.oct)
  | .rclEb1 rm => 0xD0#8 :: modRM .o2 (rm.map Reg8.oct)
  | .rcrEb1 rm => 0xD0#8 :: modRM .o3 (rm.map Reg8.oct)
  | .shlEb1 rm => 0xD0#8 :: modRM .o4 (rm.map Reg8.oct)
  | .shrEb1 rm => 0xD0#8 :: modRM .o5 (rm.map Reg8.oct)
  | .undefD06 rm => 0xD0#8 :: modRM .o6 (rm.map Reg8.oct)
  | .sarEb1 rm => 0xD0#8 :: modRM .o7 (rm.map Reg8.oct)
  | .rolEv1 rm => 0xD1#8 :: modRM .o0 (rm.map Reg16.oct)
  | .rorEv1 rm => 0xD1#8 :: modRM .o1 (rm.map Reg16.oct)
  | .rclEv1 rm => 0xD1#8 :: modRM .o2 (rm.map Reg16.oct)
  | .rcrEv1 rm => 0xD1#8 :: modRM .o3 (rm.map Reg16.oct)
  | .shlEv1 rm => 0xD1#8 :: modRM .o4 (rm.map Reg16.oct)
  | .shrEv1 rm => 0xD1#8 :: modRM .o5 (rm.map Reg16.oct)
  | .undefD16 rm => 0xD1#8 :: modRM .o6 (rm.map Reg16.oct)
  | .sarEv1 rm => 0xD1#8 :: modRM .o7 (rm.map Reg16.oct)
  | .rolEbCL rm => 0xD2#8 :: modRM .o0 (rm.map Reg8.oct)
  | .rorEbCL rm => 0xD2#8 :: modRM .o1 (rm.map Reg8.oct)
  | .rclEbCL rm => 0xD2#8 :: modRM .o2 (rm.map Reg8.oct)
  | .rcrEbCL rm => 0xD2#8 :: modRM .o3 (rm.map Reg8.oct)
  | .shlEbCL rm => 0xD2#8 :: modRM .o4 (rm.map Reg8.oct)
  | .shrEbCL rm => 0xD2#8 :: modRM .o5 (rm.map Reg8.oct)
  | .undefD26 rm => 0xD2#8 :: modRM .o6 (rm.map Reg8.oct)
  | .sarEbCL rm => 0xD2#8 :: modRM .o7 (rm.map Reg8.oct)
  | .rolEvCL rm => 0xD3#8 :: modRM .o0 (rm.map Reg16.oct)
  | .rorEvCL rm => 0xD3#8 :: modRM .o1 (rm.map Reg16.oct)
  | .rclEvCL rm => 0xD3#8 :: modRM .o2 (rm.map Reg16.oct)
  | .rcrEvCL rm => 0xD3#8 :: modRM .o3 (rm.map Reg16.oct)
  | .shlEvCL rm => 0xD3#8 :: modRM .o4 (rm.map Reg16.oct)
  | .shrEvCL rm => 0xD3#8 :: modRM .o5 (rm.map Reg16.oct)
  | .undefD36 rm => 0xD3#8 :: modRM .o6 (rm.map Reg16.oct)
  | .sarEvCL rm => 0xD3#8 :: modRM .o7 (rm.map Reg16.oct)
  | .aam imm => [0xD4#8, imm]
  | .aad imm => [0xD5#8, imm]
  | .esc op reg rm => opcodeWith 0xD8#8 op :: modRM reg (rm.map Reg16.oct)
  | .loopne disp => [0xE0#8, disp]
  | .loope disp => [0xE1#8, disp]
  | .loop disp => [0xE2#8, disp]
  | .jcxz disp => [0xE3#8, disp]
  | .inALIb imm => [0xE4#8, imm]
  | .inAXIb imm => [0xE5#8, imm]
  | .outIbAL imm => [0xE6#8, imm]
  | .outIbAX imm => [0xE7#8, imm]
  | .callJv disp => 0xE8#8 :: wordBytes disp
  | .jmpJv disp => 0xE9#8 :: wordBytes disp
  | .jmpAp off seg => 0xEA#8 :: (wordBytes off ++ wordBytes seg)
  | .jmpJb disp => [0xEB#8, disp]
  | .testEbIb rm imm => 0xF6#8 :: (modRM .o0 (rm.map Reg8.oct) ++ [imm])
  | .testEbIb1 rm imm => 0xF6#8 :: (modRM .o1 (rm.map Reg8.oct) ++ [imm])
  | .notEb rm => 0xF6#8 :: modRM .o2 (rm.map Reg8.oct)
  | .negEb rm => 0xF6#8 :: modRM .o3 (rm.map Reg8.oct)
  | .mulEb rm => 0xF6#8 :: modRM .o4 (rm.map Reg8.oct)
  | .imulEb rm => 0xF6#8 :: modRM .o5 (rm.map Reg8.oct)
  | .divEb rm => 0xF6#8 :: modRM .o6 (rm.map Reg8.oct)
  | .idivEb rm => 0xF6#8 :: modRM .o7 (rm.map Reg8.oct)
  | .testEvIv rm imm => 0xF7#8 :: (modRM .o0 (rm.map Reg16.oct) ++ wordBytes imm)
  | .testEvIv1 rm imm => 0xF7#8 :: (modRM .o1 (rm.map Reg16.oct) ++ wordBytes imm)
  | .notEv rm => 0xF7#8 :: modRM .o2 (rm.map Reg16.oct)
  | .negEv rm => 0xF7#8 :: modRM .o3 (rm.map Reg16.oct)
  | .mulEv rm => 0xF7#8 :: modRM .o4 (rm.map Reg16.oct)
  | .imulEv rm => 0xF7#8 :: modRM .o5 (rm.map Reg16.oct)
  | .divEv rm => 0xF7#8 :: modRM .o6 (rm.map Reg16.oct)
  | .idivEv rm => 0xF7#8 :: modRM .o7 (rm.map Reg16.oct)
  | .incEb rm => 0xFE#8 :: modRM .o0 (rm.map Reg8.oct)
  | .decEb rm => 0xFE#8 :: modRM .o1 (rm.map Reg8.oct)
  | .undefFE2 rm => 0xFE#8 :: modRM .o2 (rm.map Reg8.oct)
  | .undefFE3 rm => 0xFE#8 :: modRM .o3 (rm.map Reg8.oct)
  | .undefFE4 rm => 0xFE#8 :: modRM .o4 (rm.map Reg8.oct)
  | .undefFE5 rm => 0xFE#8 :: modRM .o5 (rm.map Reg8.oct)
  | .undefFE6 rm => 0xFE#8 :: modRM .o6 (rm.map Reg8.oct)
  | .undefFE7 rm => 0xFE#8 :: modRM .o7 (rm.map Reg8.oct)
  | .incEv rm => 0xFF#8 :: modRM .o0 (rm.map Reg16.oct)
  | .decEv rm => 0xFF#8 :: modRM .o1 (rm.map Reg16.oct)
  | .callEv rm => 0xFF#8 :: modRM .o2 (rm.map Reg16.oct)
  | .callMp m => 0xFF#8 :: modRM .o3 (.mem m)
  | .undefFF3 r => 0xFF#8 :: modRM .o3 (.reg r.oct)
  | .jmpEv rm => 0xFF#8 :: modRM .o4 (rm.map Reg16.oct)
  | .jmpMp m => 0xFF#8 :: modRM .o5 (.mem m)
  | .undefFF5 r => 0xFF#8 :: modRM .o5 (.reg r.oct)
  | .pushEv rm => 0xFF#8 :: modRM .o6 (rm.map Reg16.oct)
  | .undefFF7 rm => 0xFF#8 :: modRM .o7 (rm.map Reg16.oct)
  | .pushES => [0x06#8]
  | .popES => [0x07#8]
  | .segES => [0x26#8]
  | .pushCS => [0x0E#8]
  | .popCS => [0x0F#8]
  | .segCS => [0x2E#8]
  | .pushSS => [0x16#8]
  | .popSS => [0x17#8]
  | .segSS => [0x36#8]
  | .pushDS => [0x1E#8]
  | .popDS => [0x1F#8]
  | .segDS => [0x3E#8]
  | .daa => [0x27#8]
  | .das => [0x2F#8]
  | .aaa => [0x37#8]
  | .aas => [0x3F#8]
  | .nop => [0x90#8]
  | .xchgAXCX => [0x91#8]
  | .xchgAXDX => [0x92#8]
  | .xchgAXBX => [0x93#8]
  | .xchgAXSP => [0x94#8]
  | .xchgAXBP => [0x95#8]
  | .xchgAXSI => [0x96#8]
  | .xchgAXDI => [0x97#8]
  | .cbw => [0x98#8]
  | .cwd => [0x99#8]
  | .wait => [0x9B#8]
  | .pushf => [0x9C#8]
  | .popf => [0x9D#8]
  | .sahf => [0x9E#8]
  | .lahf => [0x9F#8]
  | .movsb => [0xA4#8]
  | .movsw => [0xA5#8]
  | .cmpsb => [0xA6#8]
  | .cmpsw => [0xA7#8]
  | .stosb => [0xAA#8]
  | .stosw => [0xAB#8]
  | .lodsb => [0xAC#8]
  | .lodsw => [0xAD#8]
  | .scasb => [0xAE#8]
  | .scasw => [0xAF#8]
  | .retC1 => [0xC1#8]
  | .ret => [0xC3#8]
  | .retfC9 => [0xC9#8]
  | .retf => [0xCB#8]
  | .int3 => [0xCC#8]
  | .into => [0xCE#8]
  | .iret => [0xCF#8]
  | .salc => [0xD6#8]
  | .xlat => [0xD7#8]
  | .inALDX => [0xEC#8]
  | .inAXDX => [0xED#8]
  | .outDXAL => [0xEE#8]
  | .outDXAX => [0xEF#8]
  | .lock => [0xF0#8]
  | .lockF1 => [0xF1#8]
  | .repne => [0xF2#8]
  | .rep => [0xF3#8]
  | .hlt => [0xF4#8]
  | .cmc => [0xF5#8]
  | .clc => [0xF8#8]
  | .stc => [0xF9#8]
  | .cli => [0xFA#8]
  | .sti => [0xFB#8]
  | .cld => [0xFC#8]
  | .std => [0xFD#8]

end Sys2Proof
end

