-- ==== Sys2Proof/Config.lean ====
section
/-!
DEFINITION. What an implementation fixes and what the spec leaves free (00_scope.md R5).
The constants are the ones the spec decides.
The opaque functions are the draws of R7: nothing in Lean can evaluate one or prove a value of one, so a claim about a
drawn value holds for every value (DESIGN CHOICE, log entry 1).
The OPEN parameters are fields of State (DESIGN CHOICE, log entry 2).
-/
namespace Sys2Proof.Config

/-- QUEUE_SIZE (10_state.md R25, D5). -/
def queueSize : Nat := 4

/-- PIT_DIV: CPU ticks per timer tick (50_pipeline_bus_timing.md R374). -/
def pitDiv : Nat := 4

/-- Wait ticks of a port cycle (50_pipeline_bus_timing.md R381). -/
def ioWaitStates : Nat := 1

/-- Ticks of a bus cycle without waits: T1, T2, T3, T4 (50_pipeline_bus_timing.md R381). -/
def busCycleTicks : Nat := 4

/-- Scanlines of a vertical sync pulse (65_video.md R645, CR3). -/
def vsyncLines : Nat := 16

/-- The n-th flag bit the CPU draws (00_scope.md R7, D10). -/
opaque freeBit : Nat → Bool

/-- The n-th byte the CPU draws (41_arithmetic.md R214, R215). -/
opaque freeByte : Nat → Byte

/-- The n-th word the CPU draws (40_data_transfer.md R174). -/
opaque freeWord : Nat → Word

/-- The n-th byte a device draws: a read of a write-only port, the free bits of a poll or status byte, the data of the
first acknowledge cycle, a byte a DMA device or an external handler gives when the host supplied none. -/
opaque deviceByte : Nat → Byte

/-- The n-th word a device draws: a timer count the spec leaves undefined (62_pit.md R530, R533, R534). -/
opaque deviceWord : Nat → Word

/-- The n-th bit a device draws: a timer output the spec leaves undefined (62_pit.md R533, R534). -/
opaque deviceBit : Nat → Bool

/-- What the byte of RAM or video memory with a given number holds after the e-th loss of memory content
(10_state.md R30: "a draw per byte"). -/
opaque powerOnByte : (epoch key : Nat) → Byte

/-- The character ROM: eight dots of one row of a glyph, bit 7 leftmost (00_scope.md R5 `Glyph`, 65_video.md R660). -/
opaque glyph : (code : Byte) → (row : Nat) → Byte

end Sys2Proof.Config
end

