-- ==== Sys2Proof/Machine/State.lean ====
section
/-!
DEFINITION. The state of the whole block as plain data: the CPU with its bus and execution units, the signal lines, the five
devices, memory, the parameters and the host's side (10_state.md R10 to R66, 00_scope.md R5, 70_reset_and_hazards.md R712),
and what each of them holds right after reset (70_reset_and_hazards.md R700).
-/
namespace Sys2Proof.Machine

/-! ## How a step can stop -/

/-- The model-level faults (70_reset_and_hazards.md R716): states the spec wants proved unreachable.
No instruction raises one. -/
inductive Fault where
  /-- A code byte arrives and the prefetch queue is full (50_pipeline_bus_timing.md R387).
  `tick` raises it.
  Safe: the machine stops where the spec defines no further state. -/
  | prefetchOverrun
  /-- A CPU bus cycle and a DMA transfer in one tick (50_pipeline_bus_timing.md R385, 63_dma.md R601).
  `tick` raises it.
  Safe: the machine stops where the spec defines no further state. -/
  | busCollision
deriving DecidableEq, Repr

/-- Why a step has no meaning. -/
inductive Refusal where
  /-- The instruction has no meaning in this model yet.
  Only an arm of `exec` raises it, and none does.
  Safe: the machine stops. -/
  | notModelled (mnemonic : String)
  /-- Six bytes hold no whole instruction.
  The fetch raises it, and never does, since six bytes always hold one (30_encoding.md R129).
  Safe: the machine stops. -/
  | undecodable
deriving DecidableEq, Repr

/-! ## The CPU -/

/-- The nine flags (10_state.md R15). -/
structure Flags where
  cf : Bool
  pf : Bool
  af : Bool
  zf : Bool
  sf : Bool
  tf : Bool
  ifl : Bool
  df : Bool
  ovf : Bool
deriving DecidableEq, Repr

/-- What the instruction just completed forbids at its boundary (10_state.md R27, `INHIBIT`). -/
inductive Inhibit where
  | none | maskable | all
deriving DecidableEq, Repr

/-- The two repeat marks: F2 and F3 (30_encoding.md R122). -/
inductive RepKind where
  | repne | rep
deriving DecidableEq, Repr

/-- A repeated string instruction between two iterations (10_state.md R27, `REP_ACTIVE`). -/
structure Repeating where
  kind : RepKind
  opcode : Byte
  resume : Word
deriving DecidableEq, Repr

/-- The CPU's registers and its hidden state (10_state.md R10 to R16, R27). -/
structure Cpu where
  ax : Word
  cx : Word
  dx : Word
  bx : Word
  sp : Word
  bp : Word
  si : Word
  di : Word
  ip : Word
  es : Word
  cs : Word
  ss : Word
  ds : Word
  flags : Flags
  inhibit : Inhibit
  halted : Bool
  /-- A WAIT whose TEST line was false (45_processor_control.md R342). -/
  waiting : Bool
  tfAtStart : Bool
  /-- The single-step entry still to be taken at this sampling point, after an NMI or maskable entry (60_exceptions.md R445). -/
  stepPending : Bool
  repActive : Option Repeating
  segOverride : Option SReg
  repMark : Option RepKind
  lockMark : Bool
  /-- The marks of the instruction in hand, in order (30_encoding.md R120): what `FLUSH_ON_SEG_EDGE` may tell apart. -/
  prefixes : List Instr
  /-- How many free values the CPU has drawn (00_scope.md R7). -/
  draws : Nat
deriving DecidableEq, Repr

/-- The NMI pin's edge detector (60_exceptions.md R440). -/
structure Nmi where
  latch : Bool
  prev : Bool
deriving DecidableEq, Repr

/-- The label of a tick (10_state.md R26, 50_pipeline_bus_timing.md R381). -/
inductive TState where
  | ti | t1 | t2 | t3 | tw | t4 | th
deriving DecidableEq, Repr

/-- The bus cycle types (50_pipeline_bus_timing.md R380). -/
inductive CycleType where
  | code | memR | memW | ioR | ioW | inta
deriving DecidableEq, Repr

/-- One byte access, with its address and the byte it writes (50_pipeline_bus_timing.md R380). -/
inductive BusReq where
  | code (a : Addr)
  | memR (a : Addr)
  | memW (a : Addr) (v : Byte)
  | ioR (p : Word)
  | ioW (p : Word) (v : Byte)
  | inta
deriving DecidableEq, Repr

/-- A bus cycle in progress (50_pipeline_bus_timing.md R382). -/
structure BusCycle where
  req : BusReq
  data : Byte
  waitsLeft : Nat
  /-- The access has taken effect (R383). -/
  landed : Bool
  discard : Bool
  /-- The value of TICKS in the cycle's T1 (10_state.md R29). -/
  t1 : Nat
deriving DecidableEq, Repr

/-- A record of the trace port (10_state.md R29). -/
structure TraceRecord where
  addr : Option Addr
  data : Byte
  cycle : CycleType
  tick : Nat
deriving DecidableEq, Repr

/-- The bus interface unit (10_state.md R25, R26, R29). -/
structure Biu where
  /-- The prefetch queue, oldest byte first. -/
  q : List Byte
  t : TState
  cur : Option BusCycle
  eureq : Option BusReq
  eudone : Option Byte
  lockline : Bool
  ticks : Nat
  /-- The trace ring being filled. -/
  trace : List TraceRecord
  /-- The trace ring handed out at the last boundary (50_pipeline_bus_timing.md R405). -/
  ring : List TraceRecord
  /-- The boundary flag of the last tick (50_pipeline_bus_timing.md R392). -/
  boundary : Bool
deriving DecidableEq, Repr

/-- The interrupt entries that come from outside an instruction (60_exceptions.md R446). -/
inductive EntryKind where
  | nmi | maskable | step
deriving DecidableEq, Repr

/-- What the execution unit is in the middle of (50_pipeline_bus_timing.md R390). -/
inductive EuTask where
  /-- An instruction or a mark that comes before one. -/
  | instr (i : Instr)
  /-- An interrupt entry with the offset it saves. -/
  | entry (kind : EntryKind) (ip : Word)
deriving DecidableEq, Repr

/-- The micro-steps that remain, as a continuation (50_pipeline_bus_timing.md R390).
The rest of a task is found by running its program again on the bytes its accesses have answered. -/
inductive EuProg where
  /-- None: a boundary. -/
  | idle
  /-- Decoding, with the bytes taken so far. -/
  | fetch (bytes : List Byte)
  /-- Running a task, with the CPU it began with and the answers of the accesses made so far. -/
  | run (task : EuTask) (start : Cpu) (answers : List Byte)
deriving DecidableEq, Repr

/-- The execution unit at tick level (10_state.md R26). -/
structure Eu where
  prog : EuProg
  wait : Nat
deriving DecidableEq, Repr

/-! ## The signal lines (10_state.md R28) -/

/-- The signal lines as the last tick left them. -/
structure Lines where
  intr : Bool
  nmi : Bool
  test : Bool
  lock : Bool
  irq : BitVec 8
  dreq : BitVec 4
  dack : BitVec 4
  tc : Bool
  hrq : Bool
  hlda : Bool
  gate : BitVec 3
  out : BitVec 3
  spkr : Bool
  hsync : Bool
  vsync : Bool
  de : Bool
deriving DecidableEq, Repr

/-! ## The devices -/

/-- Position in the initialisation sequence (61_pic.md R484). -/
inductive PicInit where
  | ready | wantIcw2 | wantIcw3 | wantIcw4
deriving DecidableEq, Repr

/-- The interrupt controller (10_state.md R40). -/
structure Pic where
  imr : Byte
  imrEff : Byte
  imrTimer : Nat
  irr : Byte
  isr : Byte
  irPrev : Byte
  lowest : BitVec 3
  rotAeoi : Bool
  vbase : Byte
  ltim : Bool
  sngl : Bool
  ic4 : Bool
  aeoi : Bool
  sfnm : Bool
  bufMs : BitVec 2
  upm : Bool
  smm : Bool
  readIsr : Bool
  poll : Bool
  init : PicInit
  /-- True between the first and the second acknowledge cycle. -/
  intaPhase : Bool
  intaLine : Option (BitVec 3)
deriving DecidableEq, Repr

/-- A counting mode (62_pit.md R523). -/
inductive PitMode where
  | m0 | m1 | m2 | m3 | m4 | m5
deriving DecidableEq, Repr

/-- An access format (62_pit.md R523). -/
inductive PitFormat where
  | lsb | msb | lsbMsb
deriving DecidableEq, Repr

/-- One channel of the interval timer (10_state.md R46). -/
structure PitChannel where
  mode : Option PitMode
  rw : PitFormat
  bcd : Bool
  cr : Word
  ce : Word
  ol : Word
  latched : Bool
  rdHi : Bool
  wrHi : Bool
  wlatch : Byte
  load : Bool
  run : Bool
  trig : Bool
  gatePrev : Bool
  outv : Bool
  strobe : Bool
  armed : Bool
  /-- A reload value was written since the control word (62_pit.md R533, "if a value was ever written"). -/
  written : Bool
  /-- The channel ran with reload value 1 in mode 2 or 3: its count and output are free from then on (62_pit.md R533). -/
  wild : Bool
deriving DecidableEq, Repr

/-- The interval timer (10_state.md R46). -/
structure Pit where
  c0 : PitChannel
  c1 : PitChannel
  c2 : PitChannel
  phase : Nat
deriving DecidableEq, Repr

/-- One channel of the DMA controller (10_state.md R51). -/
structure DmaChannel where
  baseAddr : Word
  baseCnt : Word
  curAddr : Word
  curCnt : Word
  dmode : BitVec 6
  page : BitVec 4
deriving DecidableEq, Repr

/-- The DMA controller with the board's refresh latch (10_state.md R51, R52). -/
structure Dma where
  c0 : DmaChannel
  c1 : DmaChannel
  c2 : DmaChannel
  c3 : DmaChannel
  cmd : Byte
  tcBits : BitVec 4
  sreq : BitVec 4
  dmask : BitVec 4
  /-- The byte pointer: true when the high byte comes next. -/
  ff : Bool
  temp : Byte
  active : Option (BitVec 2)
  dticks : Nat
  blockHold : Bool
  /-- The TC pulse of the present tick (63_dma.md R600). -/
  tcPulse : Bool
  refreshReq : Bool
  out1Prev : Bool
deriving DecidableEq, Repr

/-- The parallel I/O chip (10_state.md R57). -/
structure Ppi where
  pctrl : Byte
  paOut : Byte
  pbOut : Byte
  pcOut : Byte
  kbByte : Byte
  kbFull : Bool
deriving DecidableEq, Repr

/-- The eighteen CRTC registers with the widths the chip keeps (65_video.md R645). -/
structure Crtc where
  r0 : BitVec 8
  r1 : BitVec 8
  r2 : BitVec 8
  r3 : BitVec 4
  r4 : BitVec 7
  r5 : BitVec 5
  r6 : BitVec 7
  r7 : BitVec 7
  r8 : BitVec 2
  r9 : BitVec 5
  r10 : BitVec 7
  r11 : BitVec 5
  r12 : BitVec 6
  r13 : BitVec 8
  r14 : BitVec 6
  r15 : BitVec 8
  r16 : BitVec 6
  r17 : BitVec 8
deriving DecidableEq, Repr

/-- The latched clocking mode (65_video.md R651). -/
inductive ClkMode where
  | charClocked | cycleClocked
deriving DecidableEq, Repr

/-- The video adapter but for its memory (10_state.md R60). -/
structure Video where
  index : BitVec 5
  crtc : Crtc
  vmode : BitVec 6
  vcolor : BitVec 6
  hcc : BitVec 8
  vcc : BitVec 7
  vlc : BitVec 5
  vtac : BitVec 5
  inVta : Bool
  vma : BitVec 14
  vmaRow : BitVec 14
  hsc : BitVec 4
  vsc : BitVec 5
  inHsync : Bool
  inVsync : Bool
  hdisp : Bool
  vdisp : Bool
  clkMode : ClkMode
  charPhase : Nat
  charWidth : Nat
  switchPending : Nat
  rowBuf : List (BitVec 4)
  frame : Nat
  lpenLatched : Bool
  /-- The number of the scanline being built in its frame (65_video.md R662). -/
  lineNo : Nat
deriving DecidableEq, Repr

/-! ## The host's side and the parameters -/

/-- The host's inputs of one tick (70_reset_and_hazards.md R712).
Of `irq` bits 7 to 2 reach the block, of `dreq` bits 3 to 1. -/
structure TickInput where
  irq : BitVec 8
  dreq : BitVec 4
  nmi : Bool
  test : Bool
  scancode : Option Byte
  reset : Bool
deriving DecidableEq, Repr

/-- What the block hands to the host (70_reset_and_hazards.md R712). -/
inductive HostEvent where
  /-- A scanline with its number in the frame (65_video.md R662). -/
  | scanline (number : Nat) (row : List (BitVec 4))
  /-- The end of a frame with the mode, the colour register and the scanline count. -/
  | frameEnd (vmode vcolor : BitVec 6) (lines : Nat)
  /-- `DmaDevice(c).write(b)`. -/
  | dmaWrite (c : BitVec 2) (b : Byte)
  /-- `DmaDevice(c).tc()`. -/
  | dmaTc (c : BitVec 2)
  /-- A scancode that was not accepted (64_ppi.md R631). -/
  | scancodeRefused (b : Byte)
  /-- `ExtPortRead(p)`. -/
  | extPortRead (p : Word)
  /-- `ExtPortWrite(p, v)`. -/
  | extPortWrite (p : Word) (v : Byte)
  /-- `ExtMemRead(a)`. -/
  | extMemRead (a : Addr)
  /-- `ExtMemWrite(a, v)`. -/
  | extMemWrite (a : Addr) (v : Byte)
deriving DecidableEq, Repr

/-- The host's side: what it will give, and what it has been given in this step. -/
structure HostState where
  /-- The inputs of the ticks to come; after them the pins keep their levels, and TEST has the level of its parameter. -/
  inputs : List TickInput
  /-- `EUTicks`: the internal gaps of the micro-steps to come; after them every gap is 0 (50_pipeline_bus_timing.md R390). -/
  gaps : List Nat
  /-- How many ticks the Level A steps to come take; after them a step takes its bus cycles' ticks. -/
  elapse : List Nat
  dmaIn1 : List Byte
  dmaIn2 : List Byte
  dmaIn3 : List Byte
  /-- What the host's handlers answer to the reads of external ports and memory to come; after them free bytes. -/
  extIn : List Byte
  /-- Every step is a tick: Level T only (00_scope.md R6). -/
  byTick : Bool
  /-- How many free values the devices have drawn. -/
  draws : Nat
  out : List HostEvent
deriving DecidableEq, Repr

/-- A range of addresses or ports. -/
structure AddrRange where
  base : Nat
  size : Nat
deriving DecidableEq, Repr

/-- The machine models (64_ppi.md R630). -/
inductive Model where
  | pc5150 | pc5160
deriving DecidableEq, Repr

/-- An instruction with the marks that come before it, in order (30_encoding.md R120). -/
structure Marked where
  prefixes : List Instr
  instr : Instr
deriving DecidableEq, Repr

/-- The parameters a claim must cover every value of (00_scope.md R5). -/
structure Params where
  model : Model
  ramSize : Nat
  sw1 : Byte
  sw2 : BitVec 5
  testPin : Bool
  picImrDelay : Nat
  intLatency : Nat
  /-- `VIDEO_CLOCK_SWITCH_TICKS`, 0 or 1: whether a clocking change costs a tick. -/
  clockSwitchPause : Bool
  /-- `FLUSH_ON_SEG_EDGE`: the instructions, with their marks, that flush the queue when they had a segment override.
  A finite run meets finitely many, so to it every predicate over them is such a list. -/
  segEdgeFlush : List Marked
  /-- `DMA_CYCLE_TICKS`: ticks one transfer holds the bus, at least 2 (63_dma.md R597). -/
  dmaCycleTicks : Nat
  /-- The ports the host answers itself, among those no part of the block claims (70_reset_and_hazards.md R712). -/
  extPorts : List AddrRange
  /-- The memory the host answers itself, among the addresses no part of the block claims (70_reset_and_hazards.md R712). -/
  extMem : List AddrRange
deriving DecidableEq, Repr

/-- The whole block. -/
structure State where
  cpu : Cpu
  nmi : Nmi
  biu : Biu
  eu : Eu
  lines : Lines
  pic : Pic
  pit : Pit
  dma : Dma
  ppi : Ppi
  video : Video
  /-- Memory: the listed bytes, addresses strictly rising (20_memory.md R81, R96). -/
  mem : List Host.Cell
  /-- How often RAM and video memory have lost their content (10_state.md R30). -/
  memEpoch : Nat
  host : HostState
  params : Params
deriving DecidableEq, Repr

/-! ## Reset (70_reset_and_hazards.md R700) -/

/-- All flags clear: the image 0xF002 (10_state.md R15). -/
def Flags.clear : Flags :=
  { cf := false, pf := false, af := false, zf := false, sf := false, tf := false, ifl := false, df := false,
    ovf := false }

/-- The CPU after reset (10_state.md R10, R13, R14, R15, R27). -/
def Cpu.reset : Cpu :=
  { ax := 0, cx := 0, dx := 0, bx := 0, sp := 0, bp := 0, si := 0, di := 0, ip := 0
    es := 0, cs := 0xFFFF, ss := 0, ds := 0
    flags := Flags.clear, inhibit := .none, halted := false, waiting := false, tfAtStart := false, stepPending := false
    repActive := none, segOverride := none, repMark := none, lockMark := false, prefixes := [], draws := 0 }

/-- The NMI edge detector after reset (10_state.md R27). -/
def Nmi.reset : Nmi := { latch := false, prev := false }

/-- The bus interface unit after reset (10_state.md R25, R26, R29). -/
def Biu.reset : Biu :=
  { q := [], t := .ti, cur := none, eureq := none, eudone := none, lockline := false, ticks := 0, trace := [], ring := []
    boundary := false }

/-- The execution unit after reset (10_state.md R26). -/
def Eu.reset : Eu := { prog := .idle, wait := 0 }

/-- The lines after reset: all false (10_state.md R28).
The first tick drives TEST from its parameter and GATE0 and GATE1 high, which 62_pit.md R521 calls constant: the timer sees
those two gates low in tick 1 and their rising edge in tick 2 (DESIGN CHOICE, log entry 9). -/
def Lines.reset : Lines :=
  { intr := false, nmi := false, test := false, lock := false, irq := 0, dreq := 0, dack := 0, tc := false, hrq := false
    hlda := false, gate := 0, out := 0, spkr := false, hsync := false, vsync := false, de := false }

/-- The interrupt controller after reset (10_state.md R40, 61_pic.md R500). -/
def Pic.reset : Pic :=
  { imr := 0xFF, imrEff := 0xFF, imrTimer := 0, irr := 0, isr := 0, irPrev := 0, lowest := 7, rotAeoi := false, vbase := 0
    ltim := false, sngl := true, ic4 := false, aeoi := false, sfnm := false, bufMs := 0, upm := true, smm := false
    readIsr := false, poll := false, init := .ready, intaPhase := false, intaLine := none }

/-- A timer channel after reset (10_state.md R46, 62_pit.md R540). -/
def PitChannel.reset : PitChannel :=
  { mode := none, rw := .lsbMsb, bcd := false, cr := 0, ce := 0, ol := 0, latched := false, rdHi := false, wrHi := false
    wlatch := 0, load := false, run := false, trig := false, gatePrev := false, outv := false, strobe := false
    armed := false, written := false, wild := false }

/-- The interval timer after reset (10_state.md R46). -/
def Pit.reset : Pit :=
  { c0 := PitChannel.reset, c1 := PitChannel.reset, c2 := PitChannel.reset, phase := 0 }

/-- A DMA channel after reset (10_state.md R51). -/
def DmaChannel.reset : DmaChannel :=
  { baseAddr := 0, baseCnt := 0, curAddr := 0, curCnt := 0, dmode := 0, page := 0 }

/-- The DMA controller after reset (10_state.md R51, R52). -/
def Dma.reset : Dma :=
  { c0 := DmaChannel.reset, c1 := DmaChannel.reset, c2 := DmaChannel.reset, c3 := DmaChannel.reset
    cmd := 0, tcBits := 0, sreq := 0, dmask := 15, ff := false, temp := 0, active := none, dticks := 0, blockHold := false
    tcPulse := false, refreshReq := false, out1Prev := false }

/-- The parallel I/O chip after reset (10_state.md R57, 64_ppi.md R632). -/
def Ppi.reset : Ppi :=
  { pctrl := 0x9B, paOut := 0, pbOut := 0, pcOut := 0, kbByte := 0, kbFull := false }

/-- The CRTC registers after reset: all 0 (10_state.md R60). -/
def Crtc.reset : Crtc :=
  { r0 := 0, r1 := 0, r2 := 0, r3 := 0, r4 := 0, r5 := 0, r6 := 0, r7 := 0, r8 := 0, r9 := 0, r10 := 0, r11 := 0, r12 := 0
    r13 := 0, r14 := 0, r15 := 0, r16 := 0, r17 := 0 }

/-- The video adapter after reset (10_state.md R60, 65_video.md R665). -/
def Video.reset : Video :=
  { index := 0, crtc := Crtc.reset, vmode := 0, vcolor := 0, hcc := 0, vcc := 0, vlc := 0, vtac := 0, inVta := false
    vma := 0, vmaRow := 0, hsc := 0, vsc := 0, inHsync := false, inVsync := false, hdisp := false, vdisp := false
    clkMode := .charClocked, charPhase := 0, charWidth := 16, switchPending := 0, rowBuf := [], frame := 0
    lpenLatched := false, lineNo := 0 }

/-- The host's side before a run: no input, no gap, no byte, steps of Level A (DESIGN CHOICE, log entries 1, 2, 5, 6, 23). -/
def HostState.reset : HostState :=
  { inputs := [], gaps := [], elapse := [], dmaIn1 := [], dmaIn2 := [], dmaIn3 := [], extIn := [], byTick := false
    draws := 0, out := [] }

/-- The parameters of the reset state (DESIGN CHOICE, log entry 2): one machine among those the spec admits. -/
def Params.reset : Params :=
  { model := .pc5160, ramSize := 0xA0000, sw1 := 0, sw2 := 0, testPin := true, picImrDelay := 0, intLatency := 0
    clockSwitchPause := false, segEdgeFlush := [], dmaCycleTicks := 4, extPorts := [], extMem := [] }

/-- The machine right after power-on, with memory as a machine without ROM images has it (DESIGN CHOICE, log entry 3). -/
def State.reset : State :=
  { cpu := Cpu.reset, nmi := Nmi.reset, biu := Biu.reset, eu := Eu.reset, lines := Lines.reset
    pic := Pic.reset, pit := Pit.reset, dma := Dma.reset, ppi := Ppi.reset, video := Video.reset
    mem := [], memEpoch := 0, host := HostState.reset, params := Params.reset }

end Sys2Proof.Machine
end

