-- ==== Sys2Proof/Machine/Flags.lean ====
section
/-!
DEFINITION. The flags: the 16-bit image and its low byte, and every flag computation (10_state.md R15 to R24;
42_logic_shift.md R248).
-/
namespace Sys2Proof.Machine

/-! ## The image (10_state.md R15) -/

/-- The image a read of FLAGS gives: bits 15 to 12 and bit 1 are 1, bits 5 and 3 are 0. -/
def Flags.image (f : Flags) : Word :=
  BitVec.ofNat 16 (0xF002 + bitOf f.cf + 2 ^ 2 * bitOf f.pf + 2 ^ 4 * bitOf f.af + 2 ^ 6 * bitOf f.zf + 2 ^ 7 * bitOf f.sf +
    2 ^ 8 * bitOf f.tf + 2 ^ 9 * bitOf f.ifl + 2 ^ 10 * bitOf f.df + 2 ^ 11 * bitOf f.ovf)

/-- The flags a write of an image gives: its nine bits; the others are ignored. -/
def Flags.ofImage (v : Word) : Flags :=
  { cf := v.getLsbD 0, pf := v.getLsbD 2, af := v.getLsbD 4, zf := v.getLsbD 6, sf := v.getLsbD 7, tf := v.getLsbD 8
    ifl := v.getLsbD 9, df := v.getLsbD 10, ovf := v.getLsbD 11 }

/-- The low byte of the image, which LAHF reads (40_data_transfer.md R186). -/
def Flags.lowImage (f : Flags) : Byte := loByte f.image

/-- The five flags SAHF loads (40_data_transfer.md R187). -/
def Flags.withLow (f : Flags) (v : Byte) : Flags :=
  { f with sf := v.getLsbD 7, zf := v.getLsbD 6, af := v.getLsbD 4, pf := v.getLsbD 2, cf := v.getLsbD 0 }

/-! ## The computations -/

/-- `Parity(v)`: the low byte holds an even number of 1 bits (10_state.md R20). -/
def parity {n : Nat} (v : BitVec n) : Bool :=
  !(v.getLsbD 0 ^^ v.getLsbD 1 ^^ v.getLsbD 2 ^^ v.getLsbD 3 ^^ v.getLsbD 4 ^^ v.getLsbD 5 ^^ v.getLsbD 6 ^^ v.getLsbD 7)

/-- `SetSZP(N, r)` (10_state.md R21). -/
def Flags.setSzp {n : Nat} (f : Flags) (r : BitVec n) : Flags :=
  { f with sf := r.msb, zf := decide (r = 0), pf := parity r }

/-- `a + b + cin`, wrapped (10_state.md R22). -/
def addWith {n : Nat} (a b : BitVec n) (cin : Bool) : BitVec n := a + b + BitVec.ofNat n (bitOf cin)

/-- `a - b - bin`, wrapped (10_state.md R23). -/
def subWith {n : Nat} (a b : BitVec n) (bin : Bool) : BitVec n := a - b - BitVec.ofNat n (bitOf bin)

/-- `AddFlags(N, a, b, cin)` (10_state.md R22). -/
def Flags.add {n : Nat} (f : Flags) (a b : BitVec n) (cin : Bool) : Flags :=
  { f with
    cf := decide (2 ^ n ≤ a.toNat + b.toNat + bitOf cin)
    af := decide (16 ≤ a.toNat % 16 + b.toNat % 16 + bitOf cin)
    ovf := decide (a.msb = b.msb ∧ (addWith a b cin).msb ≠ a.msb) }.setSzp (addWith a b cin)

/-- `SubFlags(N, a, b, bin)` (10_state.md R23). -/
def Flags.sub {n : Nat} (f : Flags) (a b : BitVec n) (bin : Bool) : Flags :=
  { f with
    cf := decide (a.toNat < b.toNat + bitOf bin)
    af := decide (a.toNat % 16 < b.toNat % 16 + bitOf bin)
    ovf := decide (a.msb ≠ b.msb ∧ (subWith a b bin).msb ≠ a.msb) }.setSzp (subWith a b bin)

/-- `LogicFlags(N, r)` with the free value of AF (10_state.md R24). -/
def Flags.logic {n : Nat} (f : Flags) (r : BitVec n) (freeAf : Bool) : Flags :=
  { f with cf := false, ovf := false, af := freeAf }.setSzp r

/-- The flags of INC: those of adding 1, but CF stays (41_arithmetic.md R205). -/
def Flags.inc {n : Nat} (f : Flags) (a : BitVec n) : Flags := { f.add a 1 false with cf := f.cf }

/-- The flags of DEC: those of subtracting 1, but CF stays (41_arithmetic.md R206). -/
def Flags.dec {n : Nat} (f : Flags) (a : BitVec n) : Flags := { f.sub a 1 false with cf := f.cf }

/-! ## Free flags (10_state.md R16, decision D10; DESIGN CHOICE, log entry 1) -/

/-- The k-th free bit of the instruction in hand. -/
def Cpu.freeBit (c : Cpu) (k : Nat) : Bool := Config.freeBit (c.draws + k)

/-- The free byte of the instruction in hand. -/
def Cpu.freeByte (c : Cpu) : Byte := Config.freeByte c.draws

/-- The free word of the instruction in hand. -/
def Cpu.freeWord (c : Cpu) : Word := Config.freeWord c.draws

/-- The CPU after an instruction that drew: the next one draws others. -/
def Cpu.drew (c : Cpu) : Cpu := { c with draws := c.draws + 8 }

/-- The flags MUL and IMUL leave: CF and OF as given, SF, ZF, AF, PF free (41_arithmetic.md R220, R221). -/
def Cpu.multiplyFlags (c : Cpu) (carry : Bool) : Flags :=
  { c.flags with
    cf := carry, ovf := carry, sf := c.freeBit 0, zf := c.freeBit 1, af := c.freeBit 2, pf := c.freeBit 3 }

/-- The flags DIV and IDIV leave: all six free (41_arithmetic.md R222, R223). -/
def Cpu.divideFlags (c : Cpu) : Flags :=
  { c.flags with
    cf := c.freeBit 0, pf := c.freeBit 1, af := c.freeBit 2, zf := c.freeBit 3, sf := c.freeBit 4, ovf := c.freeBit 5 }

/-- The CPU with the flags of a division, or of a divide error (41_arithmetic.md R222, R223; 60_exceptions.md R437). -/
def Cpu.divided (c : Cpu) : Cpu := { c with flags := c.divideFlags }.drew

end Sys2Proof.Machine
end

