-- ==== Sys2Proof/Machine/Memory.lean ====
section
/-!
DEFINITION. Memory (20_memory.md R80 to R84, R96, R98): what backs each physical address, reading and writing one byte, the
canonical form of the list of bytes, and the loss of RAM content at reset (10_state.md R30).
-/
namespace Sys2Proof.Machine

/-- What backs a physical address (20_memory.md R96). -/
inductive Backing where
  | ram | video | rom
deriving DecidableEq, Repr

/-- The backing of a physical address: the video window, then RAM, then ROM or nothing (20_memory.md R84, R96).
The bytes of the ROM images are the listed ones of the third kind; an unlisted address there reads 0xFF. -/
def backing (ramSize : Nat) (a : Addr) : Backing :=
  if 0xB8000 ≤ a.toNat ∧ a.toNat < 0xC0000 then .video else if a.toNat < ramSize then .ram else .rom

/-- The list's key of a physical address: the second half of the video window is the first again (20_memory.md R96). -/
def cellKey (a : Addr) : Nat :=
  if 0xB8000 ≤ a.toNat ∧ a.toNat < 0xC0000 then 0xB8000 + a.toNat % 0x4000 else a.toNat

/-- The byte listed under a key. -/
def lookup (k : Nat) : List Host.Cell → Option Byte
  | [] => none
  | (k', v) :: m => if k < k' then none else if k = k' then some v else lookup k m

/-- List a byte under a key. -/
def insert (k : Nat) (v : Byte) : List Host.Cell → List Host.Cell
  | [] => [(k, v)]
  | (k', v') :: m => if k < k' then (k, v) :: (k', v') :: m else if k = k' then (k, v) :: m else (k', v') :: insert k v m

/-- Take a key off the list. -/
def erase (k : Nat) : List Host.Cell → List Host.Cell
  | [] => []
  | (k', v') :: m => if k < k' then (k', v') :: m else if k = k' then m else (k', v') :: erase k m

/-- What an unlisted address reads as: a free byte of RAM or video memory (10_state.md R30), 0xFF elsewhere
(20_memory.md R84). -/
def unlisted (ramSize epoch : Nat) (a : Addr) : Byte :=
  if backing ramSize a = .rom then 0xFF else Config.powerOnByte epoch (cellKey a)

/-- One byte of the block's memory (20_memory.md R84).
No memory of the block has a read side effect (R94, R96). -/
def State.peek (s : State) (a : Addr) : Byte :=
  (lookup (cellKey a) s.mem).getD (unlisted s.params.ramSize s.memEpoch a)

/-- Change one byte of the block's memory; a write to ROM or to an unclaimed address is dropped (20_memory.md R84). -/
def State.poke (s : State) (a : Addr) (v : Byte) : State :=
  if backing s.params.ramSize a = .rom then s else { s with mem := insert (cellKey a) v s.mem }

/-! ## Memory outside the block (70_reset_and_hazards.md R712; DESIGN CHOICE, log entry 23) -/

/-- The range contains a number. -/
def AddrRange.contains (r : AddrRange) (n : Nat) : Bool := decide (r.base ≤ n ∧ n < r.base + r.size)

/-- A handler of the host answers this address: it lies in a range given at construction, and neither RAM nor video memory
claims it; construction keeps ROM images out of these ranges. -/
def State.externalAt (s : State) (a : Addr) : Bool :=
  s.params.extMem.any (·.contains a.toNat) && decide (backing s.params.ramSize a = .rom)

/-- Hand something to the host. -/
def HostState.emit (h : HostState) (e : HostEvent) : HostState := { h with out := h.out ++ [e] }

/-- A device drew a free value. -/
def State.drewDevice (s : State) : State := { s with host := { s.host with draws := s.host.draws + 1 } }

/-- What a handler answers to a read: the next of the host's bytes, then free bytes. -/
def HostState.answer (h : HostState) : Byte × HostState :=
  match h.extIn with
  | b :: bs => (b, { h with extIn := bs })
  | [] => (Config.deviceByte h.draws, { h with draws := h.draws + 1 })

/-- A read a handler of the host answers: the host is told, and gives a byte. -/
def State.extRead (s : State) (e : HostEvent) : Byte × State :=
  let (b, h) := s.host.answer
  (b, { s with host := h.emit e })

/-- A write a handler of the host takes. -/
def State.extWrite (s : State) (e : HostEvent) : State := { s with host := s.host.emit e }

/-- `PhysRead8(a)` with the handlers of the host (20_memory.md R84). -/
def State.physRead (s : State) (a : Addr) : Byte × State :=
  if s.externalAt a then s.extRead (.extMemRead a) else (s.peek a, s)

/-- `PhysWrite8(a, v)` with the handlers of the host (20_memory.md R84). -/
def State.physWrite (s : State) (a : Addr) (v : Byte) : State :=
  if s.externalAt a then s.extWrite (.extMemWrite a v) else s.poke a v

/-! ## Loading -/

/-- The loader's way to put a byte anywhere, ROM included (70_reset_and_hazards.md R710). -/
def State.load (s : State) (a : Addr) (v : Byte) : State :=
  if backing s.params.ramSize a = .rom ∧ v = 0xFF then { s with mem := erase (cellKey a) s.mem }
  else { s with mem := insert (cellKey a) v s.mem }

/-- Load bytes at successive offsets of a segment. -/
def State.loadBytes (s : State) (seg off : Word) : List Byte → State
  | [] => s
  | b :: bs => (s.load (phys seg off) b).loadBytes seg (off + 1) bs

/-- The listed bytes that survive a reset: those of the ROM images (10_state.md R30, 70_reset_and_hazards.md R700). -/
def keepRom (ramSize : Nat) (m : List Host.Cell) : List Host.Cell :=
  m.filter fun cell => backing ramSize (BitVec.ofNat 20 cell.1) = .rom

/-- A cell that may stand in the list: its key is the key of its address, and it holds no byte an unlisted address would
read as anyway. -/
def Cell.wf (ramSize : Nat) (cell : Host.Cell) : Bool :=
  decide (cell.1 < 2 ^ 20) && decide (cellKey (BitVec.ofNat 20 cell.1) = cell.1) &&
    !(decide (backing ramSize (BitVec.ofNat 20 cell.1) = .rom) && decide (cell.2 = 0xFF))

/-- Every key of the list is above a given one, and the keys rise. -/
def risingFrom (k : Nat) : List Host.Cell → Bool
  | [] => true
  | (k', _) :: m => decide (k < k') && risingFrom k' m

/-- The keys of the list rise strictly. -/
def rising : List Host.Cell → Bool
  | [] => true
  | (k, _) :: m => risingFrom k m

/-- The canonical form of memory: keys strictly rising, every cell one that may stand there. -/
def Memory.wf (ramSize : Nat) (m : List Host.Cell) : Bool :=
  rising m && m.all (Cell.wf ramSize)

end Sys2Proof.Machine
end

