-- ==== Sys2Proof/Machine/Dma.lean ====
section
/-!
DEFINITION. The DMA controller with its page registers and the board's refresh latch (63_dma.md R570 to R606): the ports, the
HRQ line, and its step of a tick with the transfers.
-/
namespace Sys2Proof.Machine

/-- A channel (63_dma.md R570). -/
def Dma.channel (d : Dma) (c : BitVec 2) : DmaChannel :=
  match c.toNat with
  | 0 => d.c0 | 1 => d.c1 | 2 => d.c2 | _ => d.c3

/-- Change one channel. -/
def Dma.updateChannel (d : Dma) (c : BitVec 2) (f : DmaChannel → DmaChannel) : Dma :=
  match c.toNat with
  | 0 => { d with c0 := f d.c0 } | 1 => { d with c1 := f d.c1 } | 2 => { d with c2 := f d.c2 }
  | _ => { d with c3 := f d.c3 }

/-! ## The ports -/

/-- A word with one of its bytes replaced, the one the flip-flop selects (63_dma.md R574). -/
def putHalf (w : Word) (high : Bool) (v : Byte) : Word :=
  if high then joinBytes v (loByte w) else joinBytes (hiByte w) v

/-- The byte of a word the flip-flop selects (63_dma.md R574). -/
def getHalf (w : Word) (high : Bool) : Byte := if high then hiByte w else loByte w

/-- A write to an address port sets a byte of base and current register (63_dma.md R574). -/
def Dma.writeAddr (d : Dma) (c : BitVec 2) (v : Byte) : Dma :=
  { d.updateChannel c fun h =>
      { h with baseAddr := putHalf h.baseAddr d.ff v, curAddr := putHalf h.curAddr d.ff v } with ff := !d.ff }

/-- A write to a count port sets a byte of base and current register (63_dma.md R574). -/
def Dma.writeCount (d : Dma) (c : BitVec 2) (v : Byte) : Dma :=
  { d.updateChannel c fun h =>
      { h with baseCnt := putHalf h.baseCnt d.ff v, curCnt := putHalf h.curCnt d.ff v } with ff := !d.ff }

/-- Master clear (63_dma.md R580). -/
def Dma.masterClear (d : Dma) : Dma :=
  { d with cmd := 0, tcBits := 0, sreq := 0, temp := 0, ff := false, dmask := 15, active := none, dticks := 0
           blockHold := false }

/-- A write to port 0x00 to 0x0F (63_dma.md R572, R575, R577 to R579). -/
def Dma.write (d : Dma) (port : BitVec 4) (v : Byte) : Dma :=
  let c : BitVec 2 := v.setWidth 2
  match port.toNat with
  | 0x0 => d.writeAddr 0 v
  | 0x1 => d.writeCount 0 v
  | 0x2 => d.writeAddr 1 v
  | 0x3 => d.writeCount 1 v
  | 0x4 => d.writeAddr 2 v
  | 0x5 => d.writeCount 2 v
  | 0x6 => d.writeAddr 3 v
  | 0x7 => d.writeCount 3 v
  | 0x8 => { d with cmd := v }
  | 0x9 => { d with sreq := putBit d.sreq c.toNat (v.getLsbD 2) }
  | 0xA => { d with dmask := putBit d.dmask c.toNat (v.getLsbD 2) }
  | 0xB => d.updateChannel c fun h => { h with dmode := v.extractLsb' 2 6 }
  | 0xC => { d with ff := false }
  | 0xD => d.masterClear
  | 0xE => { d with dmask := 0 }
  | _ => { d with dmask := v.setWidth 4 }

/-- The status byte: terminal counts and pending request lines (63_dma.md R576). -/
def Dma.status (d : Dma) (dreq : BitVec 4) : Byte := dreq ++ d.tcBits

/-- A read of port 0x00 to 0x0F (63_dma.md R572, R574, R576); a port that cannot be read gives a free byte. -/
def Dma.read (d : Dma) (port : BitVec 4) (dreq : BitVec 4) (free : Byte) : Byte × Dma :=
  match port.toNat with
  | 0x0 => (getHalf d.c0.curAddr d.ff, { d with ff := !d.ff })
  | 0x1 => (getHalf d.c0.curCnt d.ff, { d with ff := !d.ff })
  | 0x2 => (getHalf d.c1.curAddr d.ff, { d with ff := !d.ff })
  | 0x3 => (getHalf d.c1.curCnt d.ff, { d with ff := !d.ff })
  | 0x4 => (getHalf d.c2.curAddr d.ff, { d with ff := !d.ff })
  | 0x5 => (getHalf d.c2.curCnt d.ff, { d with ff := !d.ff })
  | 0x6 => (getHalf d.c3.curAddr d.ff, { d with ff := !d.ff })
  | 0x7 => (getHalf d.c3.curCnt d.ff, { d with ff := !d.ff })
  | 0x8 => (d.status dreq, { d with tcBits := 0 })
  | 0xD => (d.temp, d)
  | _ => (free, d)

/-- A write to a page register, port 0x80 to 0x83 (63_dma.md R590). -/
def Dma.writePage (d : Dma) (port : BitVec 2) (v : Byte) : Dma :=
  match port.toNat with
  | 0 => d
  | 1 => { d with c2 := { d.c2 with page := v.setWidth 4 } }
  | 2 => { d with c3 := { d.c3 with page := v.setWidth 4 } }
  | _ => { d with c1 := { d.c1 with page := v.setWidth 4 } }

/-! ## Requests -/

/-- The channels with a request: software requests and the unmasked lines (63_dma.md R595). -/
def Dma.pendingSet (d : Dma) (dreq : BitVec 4) : BitVec 4 := d.sreq ||| (dreq &&& ~~~d.dmask)

/-- The pending channel of highest priority (63_dma.md R595). -/
def Dma.pending (d : Dma) (dreq : BitVec 4) : Option (BitVec 2) :=
  let p := d.pendingSet dreq
  if p.getLsbD 0 then some 0 else if p.getLsbD 1 then some 1 else if p.getLsbD 2 then some 2
  else if p.getLsbD 3 then some 3 else none

/-- The HRQ line (63_dma.md R596, R598). -/
def Dma.hrq (d : Dma) (dreq : BitVec 4) : Bool :=
  match d.active with
  | none => !d.cmd.getLsbD 2 && (d.pending dreq).isSome
  | some _ => decide (1 < d.dticks) || d.blockHold

/-- The DACK lines (63_dma.md R597). -/
def Dma.dack (d : Dma) : BitVec 4 :=
  match d.active with
  | none => 0
  | some c => BitVec.twoPow 4 c.toNat

/-- The board's refresh latch (63_dma.md R595, 10_state.md R52). -/
def Dma.refreshLatch (d : Dma) (out1 : Bool) : Dma :=
  { d with refreshReq := d.refreshReq || (out1 && !d.out1Prev), out1Prev := out1 }

/-- The four request inputs: the refresh latch and the pins (63_dma.md R595). -/
def Dma.dreqIn (d : Dma) (pins : BitVec 4) : BitVec 4 := putBit pins 0 d.refreshReq

/-! ## Transfers -/

/-- The mode of a channel: 0 demand, 1 single, 2 block, 3 cascade (63_dma.md R579). -/
def DmaChannel.mode (h : DmaChannel) : Nat := (h.dmode.extractLsb' 4 2).toNat

/-- A channel's address counter counts down (63_dma.md R579). -/
def DmaChannel.down (h : DmaChannel) : Bool := h.dmode.getLsbD 3

/-- A channel reloads itself at terminal count (63_dma.md R579). -/
def DmaChannel.autoInit (h : DmaChannel) : Bool := h.dmode.getLsbD 2

/-- A transfer type (63_dma.md R579). -/
inductive DmaType where
  | verify | write | read
deriving DecidableEq, Repr

/-- The transfer type has the illegal encoding (63_dma.md R579). -/
def DmaChannel.typeIllegal (h : DmaChannel) : Bool := decide (h.dmode.extractLsb' 0 2 = 3)

/-- The transfer type of a channel; the illegal encoding behaves as a free choice among the three
(63_dma.md R579, 93_implementation_defined.md Q2). -/
def DmaChannel.type (h : DmaChannel) (free : Byte) : DmaType :=
  match (h.dmode.extractLsb' 0 2).toNat with
  | 0 => .verify
  | 1 => .write
  | 2 => .read
  | _ => match free.toNat % 3 with | 0 => .verify | 1 => .write | _ => .read

/-- The physical address of a channel's next transfer (63_dma.md R600). -/
def DmaChannel.address (h : DmaChannel) : Addr := h.page ++ h.curAddr

/-- The next byte of the DMA device on a channel: the host's, then free bytes (63_dma.md R600, 70_reset_and_hazards.md R712). -/
def HostState.dmaRead (h : HostState) (c : BitVec 2) : Byte × HostState :=
  match c.toNat with
  | 1 => match h.dmaIn1 with
    | b :: bs => (b, { h with dmaIn1 := bs })
    | [] => (Config.deviceByte h.draws, { h with draws := h.draws + 1 })
  | 2 => match h.dmaIn2 with
    | b :: bs => (b, { h with dmaIn2 := bs })
    | [] => (Config.deviceByte h.draws, { h with draws := h.draws + 1 })
  | _ => match h.dmaIn3 with
    | b :: bs => (b, { h with dmaIn3 := bs })
    | [] => (Config.deviceByte h.draws, { h with draws := h.draws + 1 })

/-- The device on a channel gives a byte. -/
def State.dmaByte (s : State) (c : BitVec 2) : Byte × State :=
  let (b, host) := s.host.dmaRead c
  (b, { s with host := host })

/-- The data movement of one transfer of a known type (63_dma.md R600). -/
def State.dmaCarry (s : State) (c : BitVec 2) (a : Addr) : DmaType → State
  | .verify => s
  | .write => (s.dmaByte c).2.physWrite a (s.dmaByte c).1
  | .read =>
    let (b, t) := s.physRead a
    { t with host := t.host.emit (.dmaWrite c b) }

/-- The data movement of one transfer; channel 0 moves nothing (63_dma.md R600).
The free choice an illegal type makes is a draw of its own, spent before the device is asked for its byte
(DESIGN CHOICE, log entry 15). -/
def State.dmaMove (s : State) (c : BitVec 2) : State :=
  let h := s.dma.channel c
  if c = 0 then s
  else if h.typeIllegal then s.drewDevice.dmaCarry c h.address (h.type (Config.deviceByte s.host.draws))
  else s.dmaCarry c h.address (h.type 0)

/-- A channel's address after one transfer (63_dma.md R600). -/
def DmaChannel.nextAddr (h : DmaChannel) : Word := if h.down then h.curAddr - 1 else h.curAddr + 1

/-- A channel's registers after one transfer (63_dma.md R600). -/
def DmaChannel.advance (h : DmaChannel) : DmaChannel :=
  if h.curCnt = 0 then
    if h.autoInit then { h with curAddr := h.baseAddr, curCnt := h.baseCnt }
    else { h with curAddr := h.nextAddr, curCnt := 0xFFFF }
  else { h with curAddr := h.nextAddr, curCnt := h.curCnt - 1 }

/-- The controller after one transfer on a channel: the count, terminal count, and what follows (63_dma.md R600, R598);
`cycle` is DMA_CYCLE_TICKS.
`BLOCK_HOLD` falls at every landing, and the next decision of the block sets it anew (DESIGN CHOICE, log entry 36). -/
def Dma.advance (cycle : Nat) (d : Dma) (c : BitVec 2) : Dma :=
  let h := d.channel c
  let e := d.updateChannel c DmaChannel.advance
  let f :=
    if h.curCnt = 0 then
      { e with
        tcBits := putBit e.tcBits c.toNat true, sreq := putBit e.sreq c.toNat false, tcPulse := true
        dmask := if h.autoInit then e.dmask else putBit e.dmask c.toNat true }
    else e
  if f.blockHold then { f with dticks := cycle, blockHold := false }
  else { f with active := none, dticks := 0, blockHold := false }

/-- The bus is kept after this transfer (63_dma.md R598).
CMD bit 2 is not looked at: a block or demand run in progress goes on to its end although R575 lets no transfer start while the
bit is set (DESIGN CHOICE, log entry 41). -/
def Dma.keepsBus (d : Dma) (c : BitVec 2) (dreq : BitVec 4) : Bool :=
  match (d.channel c).mode with
  | 2 => decide ((d.channel c).curCnt ≠ 0)
  | 0 => decide ((d.channel c).curCnt ≠ 0) && dreq.getLsbD c.toNat
  | _ => false

/-- One transfer lands (63_dma.md R600). -/
def State.dmaTransfer (s : State) (c : BitVec 2) : State :=
  let terminal := decide ((s.dma.channel c).curCnt = 0)
  let t := s.dmaMove c
  let u := { t with dma := t.dma.advance s.params.dmaCycleTicks c }
  if terminal ∧ c ≠ 0 then { u with host := u.host.emit (.dmaTc c) } else u

/-- One tick of a cascaded channel: it holds the bus while it is requested and moves nothing (63_dma.md R579), whatever CMD bit 2
is by then (DESIGN CHOICE, log entry 41). -/
def Dma.cascadeTick (d : Dma) (c : BitVec 2) (dreq : BitVec 4) : Dma :=
  if 1 < d.dticks then if dreq.getLsbD c.toNat || d.sreq.getLsbD c.toNat then d else { d with dticks := 1 }
  else { d with active := none, dticks := 0, blockHold := false }

/-- One tick of the transfer in progress (63_dma.md R597, R598). -/
def State.dmaProgress (s : State) (c : BitVec 2) (dreq : BitVec 4) : State :=
  if (s.dma.channel c).mode = 3 then { s with dma := s.dma.cascadeTick c dreq }
  else if s.dma.dticks ≤ 1 then s.dmaTransfer c
  else if s.dma.dticks = 2 then { s with dma := { s.dma with dticks := 1, blockHold := s.dma.keepsBus c dreq } }
  else { s with dma := { s.dma with dticks := s.dma.dticks - 1 } }

/-- The controller takes up a channel (63_dma.md R597); `cycle` is DMA_CYCLE_TICKS. -/
def Dma.start (cycle : Nat) (d : Dma) (c : BitVec 2) : Dma :=
  { d with active := some c, dticks := cycle, refreshReq := if c = 0 then false else d.refreshReq }

/-- The controller's step of a tick (63_dma.md R595 to R600).
`hlda` is whether this tick is Th.
A transfer starts only while HRQ still stands, since the CPU takes the bus back at the end of this tick otherwise
(DEDUCED, log entry 8).
The request inputs are read once, before the acknowledge of this tick clears REFRESH_REQ, also for a release decision taken in
this very tick (DESIGN CHOICE, log entry 40). -/
def State.dmaTick (s : State) (hlda : Bool) : State :=
  let d := { s.dma.refreshLatch s.pit.c1.outv with tcPulse := false }
  let s := { s with dma := d }
  let dreq := d.dreqIn s.lines.dreq
  match d.active with
  | some c => if hlda then s.dmaProgress c dreq else s
  | none =>
    match d.pending dreq with
    | some c =>
      if hlda && s.lines.hrq && !d.cmd.getLsbD 2 then { s with dma := d.start s.params.dmaCycleTicks c }.dmaProgress c dreq else s
    | none => s

end Sys2Proof.Machine
end

