-- ==== Sys2Proof/Machine/Pic.lean ====
section
/-!
DEFINITION. The interrupt controller (61_pic.md R480 to R501): its two ports, its step of a tick, its INTR line and the
acknowledge cycles.
-/
namespace Sys2Proof.Machine

/-- The eight lines in ascending order. -/
def picLines : List (BitVec 3) := [0, 1, 2, 3, 4, 5, 6, 7]

/-- `rank(i) = (i - LOWEST - 1) mod 8`, 0 highest (61_pic.md R492). -/
def Pic.rank (p : Pic) (i : BitVec 3) : Nat := (i - p.lowest - 1).toNat

/-- A line is in service. -/
def Pic.inService (p : Pic) (i : BitVec 3) : Bool := p.isr.getLsbD i.toNat

/-- A line has a request that the effective mask lets through (61_pic.md R492, `req`). -/
def Pic.requested (p : Pic) (i : BitVec 3) : Bool := p.irr.getLsbD i.toNat && !p.imrEff.getLsbD i.toNat

/-- A line is eligible (61_pic.md R492).
With SFNM and SMM both set the rule gives two conditions and no precedence; special mask mode wins (DESIGN CHOICE, log entry
35). -/
def Pic.eligible (p : Pic) (i : BitVec 3) : Bool :=
  p.requested i &&
    if p.smm then !p.inService i
    else if p.sfnm then picLines.all fun j => !(p.inService j && decide (p.rank j < p.rank i))
    else picLines.all fun j => !(p.inService j && decide (p.rank j ≤ p.rank i))

/-- Of the lines that satisfy a test, the one of highest priority. -/
def Pic.highest (p : Pic) (test : BitVec 3 → Bool) : Option (BitVec 3) :=
  (picLines.map fun k => k + p.lowest + 1).find? test

/-- The selected line (61_pic.md R492). -/
def Pic.selected (p : Pic) : Option (BitVec 3) := p.highest p.eligible

/-- The INTR line (61_pic.md R492). -/
def Pic.intr (p : Pic) : Bool := picLines.any p.eligible

/-- Set the in-service bit of a line and clear its request (61_pic.md R480). -/
def Pic.serve (p : Pic) (i : BitVec 3) : Pic :=
  { p with isr := putBit p.isr i.toNat true, irr := putBit p.irr i.toNat false }

/-- The first acknowledge cycle (61_pic.md R496). -/
def Pic.ackFirst (p : Pic) : Pic :=
  match p.selected with
  | some i => { p.serve i with intaPhase := true, intaLine := some i }
  | none => { p with intaPhase := true, intaLine := none }

/-- The vector byte of the second acknowledge cycle; the spurious one when no line was selected (61_pic.md R496, R497). -/
def Pic.vector (p : Pic) : Byte :=
  match p.intaLine with
  | some i => p.vbase ||| i.setWidth 8
  | none => p.vbase ||| 7

/-- The end of the second acknowledge cycle, with the automatic end of interrupt (61_pic.md R496). -/
def Pic.ackSecond (p : Pic) : Pic :=
  match p.intaLine with
  | some i =>
    if p.aeoi then
      { p with isr := putBit p.isr i.toNat false, lowest := if p.rotAeoi then i else p.lowest, intaPhase := false,
               intaLine := none }
    else { p with intaPhase := false, intaLine := none }
  | none => { p with intaPhase := false, intaLine := none }

/-- ICW1 (61_pic.md R483). -/
def Pic.icw1 (p : Pic) (v : Byte) : Pic :=
  { p with
    ic4 := v.getLsbD 0, sngl := v.getLsbD 1, ltim := v.getLsbD 3
    imr := 0, imrEff := 0, imrTimer := 0, irr := 0, isr := 0, irPrev := 0, lowest := 7, rotAeoi := false, smm := false
    readIsr := false, poll := false, aeoi := false, sfnm := false, bufMs := 0, upm := true, intaPhase := false
    intaLine := none, init := .wantIcw2 }

/-- ICW2 (61_pic.md R484). -/
def Pic.icw2 (p : Pic) (v : Byte) : Pic :=
  { p with vbase := v &&& 0xF8, init := if !p.sngl then .wantIcw3 else if p.ic4 then .wantIcw4 else .ready }

/-- ICW3: the byte is ignored (61_pic.md R484). -/
def Pic.icw3 (p : Pic) : Pic := { p with init := if p.ic4 then .wantIcw4 else .ready }

/-- ICW4 (61_pic.md R484). -/
def Pic.icw4 (p : Pic) (v : Byte) : Pic :=
  { p with upm := v.getLsbD 0, aeoi := v.getLsbD 1, bufMs := v.extractLsb' 2 2, sfnm := v.getLsbD 4, init := .ready }

/-- OCW1, the mask, with its delay (61_pic.md R490, R491). -/
def Pic.ocw1 (p : Pic) (delay : Nat) (v : Byte) : Pic :=
  if delay = 0 then { p with imr := v, imrEff := v } else { p with imr := v, imrTimer := delay }

/-- The in-service line a non-specific end of interrupt ends (61_pic.md R494). -/
def Pic.eoiLine (p : Pic) : Option (BitVec 3) :=
  p.highest fun i => p.inService i && !(p.smm && p.imr.getLsbD i.toNat)

/-- Clear an in-service bit. -/
def Pic.endOf (p : Pic) (i : BitVec 3) : Pic := { p with isr := putBit p.isr i.toNat false }

/-- OCW2 (61_pic.md R493, R494). -/
def Pic.ocw2 (p : Pic) (v : Byte) : Pic :=
  let l : BitVec 3 := v.setWidth 3
  match v.getLsbD 7, v.getLsbD 6, v.getLsbD 5 with
  | false, false, true => match p.eoiLine with | some i => p.endOf i | none => p
  | false, true, true => p.endOf l
  | true, false, true => match p.eoiLine with | some i => { p.endOf i with lowest := i } | none => p
  | true, true, true => { p.endOf l with lowest := l }
  | true, false, false => { p with rotAeoi := true }
  | false, false, false => { p with rotAeoi := false }
  | true, true, false => { p with lowest := l }
  | false, true, false => p

/-- OCW3 (61_pic.md R495). -/
def Pic.ocw3 (p : Pic) (v : Byte) : Pic :=
  let q := if v.getLsbD 6 then { p with smm := v.getLsbD 5 } else p
  if v.getLsbD 2 then { q with poll := true } else if v.getLsbD 1 then { q with readIsr := v.getLsbD 0 } else q

/-- A write to port 0x20 (61_pic.md R482). -/
def Pic.writeCommand (p : Pic) (v : Byte) : Pic :=
  if v.getLsbD 4 then p.icw1 v else if v.getLsbD 3 then p.ocw3 v else p.ocw2 v

/-- A write to port 0x21 (61_pic.md R482). -/
def Pic.writeData (p : Pic) (delay : Nat) (v : Byte) : Pic :=
  match p.init with
  | .ready => p.ocw1 delay v
  | .wantIcw2 => p.icw2 v
  | .wantIcw3 => p.icw3
  | .wantIcw4 => p.icw4 v

/-- A poll read, with the free bits of a byte that reports no request (61_pic.md R498). -/
def Pic.pollRead (p : Pic) (free : Byte) : Byte × Pic :=
  match p.selected with
  | some i => (0x80 ||| i.setWidth 8, { p.serve i with poll := false })
  | none => (free &&& 0x7F, { p with poll := false })

/-- A read of port 0x20 without a poll command (61_pic.md R482, R495). -/
def Pic.readCommand (p : Pic) : Byte := if p.readIsr then p.isr else p.irr

/-- The request register after the lines are sampled, every line alike: a level input follows
its line; an edge input latches a rise and is withdrawn by a fall (61_pic.md R481, R485, R486). -/
def Pic.sampledIrr (p : Pic) (irq : Byte) : Byte :=
  if p.ltim then irq else irq &&& (p.irr ||| ~~~p.irPrev)

/-- The controller's step of a tick (61_pic.md R485, R491). -/
def Pic.tick (p : Pic) (irq : Byte) : Pic :=
  { p with
    irr := p.sampledIrr irq, irPrev := irq, imrTimer := p.imrTimer - 1
    imrEff := if p.imrTimer = 1 then p.imr else p.imrEff }

end Sys2Proof.Machine
end

