-- ==== Sys2Proof/Machine/Pit.lean ====
section
/-!
DEFINITION. The interval timer (62_pit.md R520 to R541): its four ports, the gates, and the six counting modes.
-/
namespace Sys2Proof.Machine

/-! ## Counting down (62_pit.md R530) -/

/-- A digit of a four-digit decimal count, digit 0 the least significant. -/
def bcdDigit (x : Word) (i : Nat) : Nat := x.toNat / 16 ^ i % 16

/-- Every digit is at most 9. -/
def bcdValid (x : Word) : Bool :=
  decide (bcdDigit x 0 ≤ 9 ∧ bcdDigit x 1 ≤ 9 ∧ bcdDigit x 2 ≤ 9 ∧ bcdDigit x 3 ≤ 9)

/-- The number four decimal digits stand for. -/
def bcdToNat (x : Word) : Nat := bcdDigit x 0 + 10 * bcdDigit x 1 + 100 * bcdDigit x 2 + 1000 * bcdDigit x 3

/-- The four decimal digits of a number below 10000. -/
def natToBcd (n : Nat) : Word :=
  BitVec.ofNat 16 (n % 10 + 16 * (n / 10 % 10) + 256 * (n / 100 % 10) + 4096 * (n / 1000 % 10))

/-- `sub(x, k)` for k = 1, 2, 3: binary, or decimal with 0000 going to 9999; a count with a digit above 9 gives a free word
(62_pit.md R530, 93_implementation_defined.md T2). -/
def pitSub (bcd : Bool) (free x : Word) (k : Nat) : Word :=
  if bcd then
    if bcdValid x then natToBcd ((bcdToNat x + 10000 - k) % 10000) else free
  else x - BitVec.ofNat 16 k

/-! ## The ports -/

/-- The mode a control word's bits 3:1 name (62_pit.md R523). -/
def pitModeOf (m : BitVec 3) : PitMode :=
  match m.toNat with
  | 0 => .m0 | 1 => .m1 | 2 => .m2 | 3 => .m3 | 4 => .m4 | 5 => .m5 | 6 => .m2 | _ => .m3

/-- A control word that programs a channel, with its access format (62_pit.md R524). -/
def PitChannel.program (c : PitChannel) (rw : PitFormat) (v : Byte) : PitChannel :=
  let mode := pitModeOf (v.extractLsb' 1 3)
  { c with
    mode := some mode, rw := rw, bcd := v.getLsbD 0, wrHi := false, rdHi := false, latched := false, load := false
    run := false, armed := false, strobe := false, trig := false, outv := decide (mode ≠ .m0), written := false
    wild := false }

/-- A gate trigger that may start the channel: it does not count until a reload value is written (62_pit.md R524).
A trigger that comes before is spent (DESIGN CHOICE, log entry 14). -/
def PitChannel.triggered (c : PitChannel) : Bool := c.trig && c.written

/-- The counter latch command (62_pit.md R526). -/
def PitChannel.latch (c : PitChannel) : PitChannel := if c.latched then c else { c with ol := c.ce, latched := true }

/-- A control word's effect on the channel it selects, by its access field (62_pit.md R523). -/
def PitChannel.control (c : PitChannel) (v : Byte) : PitChannel :=
  match v.getLsbD 5, v.getLsbD 4 with
  | false, false => c.latch
  | false, true => c.program .lsb v
  | true, false => c.program .msb v
  | true, true => c.program .lsbMsb v

/-- A reload value is complete (62_pit.md R525). -/
def PitChannel.reload (c : PitChannel) (v : Word) : PitChannel :=
  let d := { c with cr := v, written := true }
  match c.mode with
  | none | some .m1 | some .m5 => d
  | some .m0 => { d with outv := false, load := true }
  | some .m2 | some .m3 => if c.run then d else { d with load := true }
  | some .m4 => { d with load := true, armed := true }

/-- A write to the channel's count port (62_pit.md R525). -/
def PitChannel.writeCount (c : PitChannel) (v : Byte) : PitChannel :=
  match c.rw with
  | .lsb => c.reload (joinBytes 0 v)
  | .msb => c.reload (joinBytes v 0)
  | .lsbMsb =>
    if c.wrHi then { c.reload (joinBytes v c.wlatch) with wrHi := false }
    else { c with wlatch := v, wrHi := true, run := if c.mode = some .m0 then false else c.run }

/-- The count a read takes: the latched one if there is one (62_pit.md R527). -/
def PitChannel.shown (c : PitChannel) : Word := if c.latched then c.ol else c.ce

/-- A read of the channel's count port (62_pit.md R527). -/
def PitChannel.readCount (c : PitChannel) : Byte × PitChannel :=
  match c.rw with
  | .lsb => (loByte c.shown, { c with latched := false })
  | .msb => (hiByte c.shown, { c with latched := false })
  | .lsbMsb =>
    if c.rdHi then (hiByte c.shown, { c with rdHi := false, latched := false }) else (loByte c.shown, { c with rdHi := true })

/-- A write to port 0x43: the control word goes to the channel it selects; channel number 3 is ignored (62_pit.md R523). -/
def Pit.writeControl (p : Pit) (v : Byte) : Pit :=
  match v.getLsbD 7, v.getLsbD 6 with
  | false, false => { p with c0 := p.c0.control v }
  | false, true => { p with c1 := p.c1.control v }
  | true, false => { p with c2 := p.c2.control v }
  | true, true => p

/-! ## Time -/

/-- What every CPU tick does to a channel: the gate (62_pit.md R530).
The output that a reload value of 1 left free is not forced high: any value it has stays until the next timer tick (DESIGN
CHOICE, log entry 14). -/
def PitChannel.gateStep (c : PitChannel) (g : Bool) : PitChannel :=
  { c with
    trig := c.trig || (g && !c.gatePrev), gatePrev := g
    outv := if !g && !c.wild && decide (c.mode = some .m2 ∨ c.mode = some .m3) then true else c.outv }

/-- `CE <- CR` in modes 2 and 3, where a reload value of 1 leaves count and output free from then on
(62_pit.md R533, R534). -/
def PitChannel.loadPeriodic (c : PitChannel) : PitChannel := { c with ce := c.cr, wild := decide (c.cr = 1) }

/-- Mode 0, interrupt on terminal count (62_pit.md R531). -/
def PitChannel.step0 (c : PitChannel) (g : Bool) (free : Word) : PitChannel :=
  if c.load then { c with ce := c.cr, load := false, run := true }
  else if c.run && g then
    let n := pitSub c.bcd free c.ce 1
    { c with ce := n, outv := if n = 0 then true else c.outv }
  else c

/-- Mode 1, one-shot (62_pit.md R532). -/
def PitChannel.step1 (c : PitChannel) (free : Word) : PitChannel :=
  if c.triggered then { c with ce := c.cr, outv := false, run := true }
  else if c.run then
    let n := pitSub c.bcd free c.ce 1
    { c with ce := n, outv := if n = 0 then true else c.outv }
  else c

/-- Mode 2, rate generator (62_pit.md R533). -/
def PitChannel.step2 (c : PitChannel) (g : Bool) (free : Word) : PitChannel :=
  if c.triggered then { c.loadPeriodic with outv := true, load := false, run := true }
  else if c.load then { c.loadPeriodic with load := false, run := true }
  else if c.run && g then
    if c.ce = 1 then { c.loadPeriodic with outv := true }
    else
      let n := pitSub c.bcd free c.ce 1
      { c with ce := n, outv := if n = 1 then false else c.outv }
  else c

/-- The count of mode 3 after one timer tick (62_pit.md R534). -/
def PitChannel.squareCount (c : PitChannel) (free : Word) : Word :=
  pitSub c.bcd free c.ce (if c.ce.getLsbD 0 then (if c.outv then 1 else 3) else 2)

/-- Mode 3, square wave (62_pit.md R534). -/
def PitChannel.step3 (c : PitChannel) (g : Bool) (free : Word) : PitChannel :=
  if c.triggered then { c.loadPeriodic with outv := true, load := false, run := true }
  else if c.load then { c.loadPeriodic with load := false, run := true }
  else if c.run && g then
    let n := c.squareCount free
    if n = 0 then { c.loadPeriodic with outv := !c.outv } else { c with ce := n }
  else c

/-- The end of a strobe pulse (62_pit.md R535, R536). -/
def PitChannel.endStrobe (c : PitChannel) : PitChannel :=
  if c.strobe then { c with outv := true, strobe := false } else c

/-- One count of a strobe mode (62_pit.md R535, R536). -/
def PitChannel.strobeCount (c : PitChannel) (free : Word) : PitChannel :=
  let n := pitSub c.bcd free c.ce 1
  if n = 0 ∧ c.armed then { c with ce := n, outv := false, strobe := true, armed := false } else { c with ce := n }

/-- Mode 4, software-triggered strobe (62_pit.md R535). -/
def PitChannel.step4 (c : PitChannel) (g : Bool) (free : Word) : PitChannel :=
  let d := c.endStrobe
  if d.load then { d with ce := d.cr, load := false, run := true } else if d.run && g then d.strobeCount free else d

/-- Mode 5, hardware-triggered strobe (62_pit.md R536). -/
def PitChannel.step5 (c : PitChannel) (free : Word) : PitChannel :=
  let d := c.endStrobe
  if d.triggered then { d with ce := d.cr, run := true, armed := true } else if d.run then d.strobeCount free else d

/-- The step of the channel's mode; a channel that ran with reload value 1 in mode 2 or 3 has a free count and output. -/
def PitChannel.modeStep (c : PitChannel) (g : Bool) (freeWord : Word) (freeBit : Bool) : PitChannel :=
  match c.mode with
  | none => c
  | some m =>
    if c.wild then { c with ce := freeWord, outv := freeBit }
    else match m with
      | .m0 => c.step0 g freeWord
      | .m1 => c.step1 freeWord
      | .m2 => c.step2 g freeWord
      | .m3 => c.step3 g freeWord
      | .m4 => c.step4 g freeWord
      | .m5 => c.step5 freeWord

/-- A timer tick of a channel (62_pit.md R530): the step of its mode, after which the trigger is spent. -/
def PitChannel.timerTick (c : PitChannel) (g : Bool) (freeWord : Word) (freeBit : Bool) : PitChannel :=
  match c.mode with
  | none => c
  | some _ => { c.modeStep g freeWord freeBit with trig := false }

/-- This CPU tick is a timer tick (62_pit.md R530, 50_pipeline_bus_timing.md R374). -/
def Pit.timerTickDue (p : Pit) : Bool := decide ((p.phase + 1) % Config.pitDiv = 0)

/-- The timer's step of a CPU tick (62_pit.md R530); `d` numbers the free values it may draw. -/
def Pit.tick (p : Pit) (gate : BitVec 3) (d : Nat) : Pit :=
  let c0 := p.c0.gateStep (gate.getLsbD 0)
  let c1 := p.c1.gateStep (gate.getLsbD 1)
  let c2 := p.c2.gateStep (gate.getLsbD 2)
  if p.timerTickDue then
    { c0 := c0.timerTick (gate.getLsbD 0) (Config.deviceWord d) (Config.deviceBit d)
      c1 := c1.timerTick (gate.getLsbD 1) (Config.deviceWord (d + 1)) (Config.deviceBit (d + 1))
      c2 := c2.timerTick (gate.getLsbD 2) (Config.deviceWord (d + 2)) (Config.deviceBit (d + 2))
      phase := (p.phase + 1) % Config.pitDiv }
  else { c0 := c0, c1 := c1, c2 := c2, phase := (p.phase + 1) % Config.pitDiv }

/-- The output levels OUT2, OUT1, OUT0 (62_pit.md R537). -/
def Pit.out (p : Pit) : BitVec 3 := BitVec.ofNat 3 (bitOf p.c0.outv + 2 * bitOf p.c1.outv + 4 * bitOf p.c2.outv)

end Sys2Proof.Machine
end

