-- ==== Sys2Proof/Machine/Ppi.lean ====
section
/-!
DEFINITION. The parallel I/O chip and the keyboard path (64_ppi.md R620 to R633).
-/
namespace Sys2Proof.Machine

/-- Port A is an input (64_ppi.md R623). -/
def Ppi.aIsInput (p : Ppi) : Bool := p.pctrl.getLsbD 4

/-- Port B is an input (64_ppi.md R623). -/
def Ppi.bIsInput (p : Ppi) : Bool := p.pctrl.getLsbD 1

/-- The upper half of port C is an input (64_ppi.md R623). -/
def Ppi.cHighIsInput (p : Ppi) : Bool := p.pctrl.getLsbD 3

/-- The lower half of port C is an input (64_ppi.md R623). -/
def Ppi.cLowIsInput (p : Ppi) : Bool := p.pctrl.getLsbD 0

/-- A signal of port B: the latch's bit while the port is an output, 0 otherwise (64_ppi.md R626). -/
def Ppi.pb (p : Ppi) (i : Nat) : Bool := !p.bIsInput && p.pbOut.getLsbD i

/-- The external input of port A (64_ppi.md R627). -/
def Ppi.paIn (p : Ppi) (q : Params) : Byte :=
  match q.model with
  | .pc5150 => if p.pb 7 then q.sw1 else p.kbByte
  | .pc5160 => p.kbByte

/-- The low half of the external input of port C: the switches (64_ppi.md R629). -/
def Ppi.pcSwitches (p : Ppi) (q : Params) : BitVec 4 :=
  match q.model with
  | .pc5150 => if p.pb 2 then q.sw2.setWidth 4 else BitVec.ofNat 4 (bitOf (q.sw2.getLsbD 4))
  | .pc5160 => if p.pb 3 then q.sw1.extractLsb' 4 4 else q.sw1.setWidth 4

/-- The external input of port C (64_ppi.md R629). -/
def Ppi.pcIn (p : Ppi) (q : Params) (out2 : Bool) : Byte :=
  BitVec.ofNat 4 (2 * bitOf out2) ++ p.pcSwitches q

/-- A read of port A (64_ppi.md R625, R627). -/
def Ppi.readA (p : Ppi) (q : Params) : Byte := if p.aIsInput then p.paIn q else p.paOut

/-- A read of port B (64_ppi.md R625, R628). -/
def Ppi.readB (p : Ppi) : Byte := if p.bIsInput then 0 else p.pbOut

/-- A read of port C, each half by its direction (64_ppi.md R625, R629). -/
def Ppi.readC (p : Ppi) (q : Params) (out2 : Bool) : Byte :=
  let x := p.pcIn q out2
  (if p.cHighIsInput then x &&& 0xF0 else p.pcOut &&& 0xF0) ||| (if p.cLowIsInput then x &&& 0x0F else p.pcOut &&& 0x0F)

/-- A write to the control port: a mode set, or one bit of port C (64_ppi.md R623). -/
def Ppi.control (p : Ppi) (v : Byte) : Ppi :=
  if v.getLsbD 7 then { p with pctrl := v, paOut := 0, pbOut := 0, pcOut := 0 }
  else { p with pcOut := putBit p.pcOut (v.extractLsb' 1 3).toNat (v.getLsbD 0) }

/-- A write to port 0x60 to 0x63 (64_ppi.md R622, R624). -/
def Ppi.write (p : Ppi) (port : BitVec 2) (v : Byte) : Ppi :=
  match port.toNat with
  | 0 => { p with paOut := v }
  | 1 => { p with pbOut := v }
  | 2 => { p with pcOut := v }
  | _ => p.control v

/-- A read of port 0x60 to 0x63 (64_ppi.md R622, R625); the control port gives a free byte. -/
def Ppi.read (p : Ppi) (q : Params) (out2 : Bool) (port : BitVec 2) (free : Byte) : Byte :=
  match port.toNat with
  | 0 => p.readA q
  | 1 => p.readB
  | 2 => p.readC q out2
  | _ => free

/-- The chip takes a scancode now (64_ppi.md R631). -/
def Ppi.accepts (p : Ppi) : Bool := !p.bIsInput && !p.pbOut.getLsbD 7 && p.pbOut.getLsbD 6 && !p.kbFull

/-- The event `KeyScancode(b)` when it is accepted (64_ppi.md R631). -/
def Ppi.scancode (p : Ppi) (b : Byte) : Ppi := { p with kbByte := b, kbFull := true }

/-- The chip's step of a tick: the clear line (64_ppi.md R631). -/
def Ppi.tick (p : Ppi) : Ppi := if p.pb 7 then { p with kbByte := 0, kbFull := false } else p

end Sys2Proof.Machine
end

