-- ==== Sys2Proof/Machine/Video.lean ====
section
/-!
DEFINITION. The video adapter (65_video.md R640 to R667): its ports, the dots, the counters and the clocking.
-/
namespace Sys2Proof.Machine

/-! ## The registers -/

/-- A write to the CRTC register the index selects; bits above those kept are dropped, the two light-pen registers and the
indices above 17 take nothing (65_video.md R645). -/
def Crtc.write (c : Crtc) (index : BitVec 5) (v : Byte) : Crtc :=
  match index.toNat with
  | 0 => { c with r0 := v }
  | 1 => { c with r1 := v }
  | 2 => { c with r2 := v }
  | 3 => { c with r3 := v.setWidth 4 }
  | 4 => { c with r4 := v.setWidth 7 }
  | 5 => { c with r5 := v.setWidth 5 }
  | 6 => { c with r6 := v.setWidth 7 }
  | 7 => { c with r7 := v.setWidth 7 }
  | 8 => { c with r8 := v.setWidth 2 }
  | 9 => { c with r9 := v.setWidth 5 }
  | 10 => { c with r10 := v.setWidth 7 }
  | 11 => { c with r11 := v.setWidth 5 }
  | 12 => { c with r12 := v.setWidth 6 }
  | 13 => { c with r13 := v }
  | 14 => { c with r14 := v.setWidth 6 }
  | 15 => { c with r15 := v }
  | _ => c

/-- A read of the CRTC register the index selects; a register that cannot be read gives a free byte (65_video.md R645). -/
def Crtc.read (c : Crtc) (index : BitVec 5) (free : Byte) : Byte :=
  match index.toNat with
  | 14 => c.r14.setWidth 8
  | 15 => c.r15
  | 16 => c.r16.setWidth 8
  | 17 => c.r17
  | _ => free

/-- Where the raster is (10_state.md R61). -/
inductive RState where
  | visible | hBlank | vBlank
deriving DecidableEq, Repr

/-- `RSTATE` (10_state.md R61, 65_video.md R654). -/
def Video.rstate (v : Video) : RState := if !v.vdisp then .vBlank else if !v.hdisp then .hBlank else .visible

/-- `DE` (10_state.md R61). -/
def Video.de (v : Video) : Bool := decide (v.rstate = .visible)

/-- The clocking the mode register asks for (65_video.md R655). -/
def Video.wantedMode (v : Video) : ClkMode := if v.vmode.getLsbD 1 then .cycleClocked else .charClocked

/-- The character width the mode register asks for (65_video.md R651, R655). -/
def Video.wantedWidth (v : Video) : Nat := if v.vmode.getLsbD 0 then 8 else 16

/-- Latch a clocking change, if one is asked for and a character begins (65_video.md R655). -/
def Video.latchClocking (v : Video) (pause : Bool) : Video :=
  if v.charPhase = 0 ∧ (v.wantedMode ≠ v.clkMode ∨ v.wantedWidth ≠ v.charWidth) then
    { v with clkMode := v.wantedMode, charWidth := v.wantedWidth, switchPending := bitOf pause }
  else v

/-- A write to port 0x3D0 to 0x3DF (65_video.md R642, R646, R647, R649). -/
def Video.write (v : Video) (pause : Bool) (port : BitVec 4) (b : Byte) : Video :=
  match port.toNat with
  | 0x0 | 0x2 | 0x4 | 0x6 => { v with index := b.setWidth 5 }
  | 0x1 | 0x3 | 0x5 | 0x7 => { v with crtc := v.crtc.write v.index b }
  | 0x8 => { v with vmode := b.setWidth 6 }.latchClocking pause
  | 0x9 => { v with vcolor := b.setWidth 6 }
  | 0xB => { v with lpenLatched := false }
  | 0xC =>
    if v.lpenLatched then v
    else { v with crtc := { v.crtc with r16 := v.vma.extractLsb' 8 6, r17 := v.vma.extractLsb' 0 8 }, lpenLatched := true }
  | _ => v

/-- The status byte; its high half is free (65_video.md R648). -/
def Video.status (v : Video) (free : Byte) : Byte :=
  (free &&& 0xF0) |||
    BitVec.ofNat 8 (bitOf (decide (v.rstate ≠ .visible)) + 2 * bitOf v.lpenLatched + 8 * bitOf v.inVsync)

/-- A read of port 0x3D0 to 0x3DF (65_video.md R642, R648). -/
def Video.read (v : Video) (port : BitVec 4) (free : Byte) : Byte :=
  match port.toNat with
  | 0x1 | 0x3 | 0x5 | 0x7 => v.crtc.read v.index free
  | 0xA => v.status free
  | 0xD | 0xE | 0xF => 0xFF
  | _ => free

/-! ## The dots -/

/-- A byte of video memory, read directly (65_video.md R650). -/
def State.vram (s : State) (a : Nat) : Byte := s.peek (BitVec.ofNat 20 (0xB8000 + a % 16384))

/-- The cursor is on this scanline of this character, in its visible phase (65_video.md R660). -/
def Video.cursorOn (v : Video) : Bool :=
  decide (v.vma = v.crtc.r14 ++ v.crtc.r15) &&
    decide (v.crtc.r10.extractLsb' 0 5 ≤ v.vlc ∧ v.vlc ≤ v.crtc.r11) &&
    match (v.crtc.r10.extractLsb' 5 2).toNat with
    | 0 => true
    | 1 => false
    | 2 => v.frame.testBit 3
    | _ => v.frame.testBit 4

/-- A dot of a text character (65_video.md R660). -/
def State.textDot (s : State) (p : Nat) : BitVec 4 :=
  let v := s.video
  let code := s.vram (2 * v.vma.toNat)
  let attr := s.vram (2 * v.vma.toNat + 1)
  let x := if v.charWidth = 8 then p else p / 2
  let blinks := v.vmode.getLsbD 5
  let glyphBit := (Config.glyph code (v.vlc.toNat % 8)).getLsbD (7 - x)
  let lit := if blinks && attr.getLsbD 7 && v.frame.testBit 4 then false else glyphBit
  let on := lit || v.cursorOn
  if on then attr.setWidth 4 else if blinks then (attr.extractLsb' 4 3).setWidth 4 else attr.extractLsb' 4 4

/-- The address in video memory of a graphics character's first byte (65_video.md R660). -/
def Video.graphicsAddr (v : Video) : Nat := v.vlc.toNat % 2 * 0x2000 + 2 * v.vma.toNat % 0x2000

/-- The colour of a 320x200 pixel value before intensity (65_video.md R660). -/
def Video.palette (v : Video) (pixel : Nat) : Nat :=
  match pixel with
  | 1 => if v.vmode.getLsbD 2 then 3 else if v.vcolor.getLsbD 5 then 3 else 2
  | 2 => if v.vmode.getLsbD 2 then 4 else if v.vcolor.getLsbD 5 then 5 else 4
  | _ => if v.vmode.getLsbD 2 then 7 else if v.vcolor.getLsbD 5 then 7 else 6

/-- The colour of a 320x200 pixel value (65_video.md R660). -/
def Video.paletteColour (v : Video) (pixel : Nat) : BitVec 4 :=
  if pixel = 0 then v.vcolor.setWidth 4
  else BitVec.ofNat 4 (v.palette pixel + 8 * bitOf (v.vcolor.getLsbD 4))

/-- A dot of a 320x200 graphics character (65_video.md R660). -/
def State.dot320 (s : State) (p : Nat) : BitVec 4 :=
  let k := p / 2
  let b := s.vram (s.video.graphicsAddr + k / 4)
  s.video.paletteColour ((b.toNat / 2 ^ (6 - 2 * (k % 4))) % 4)

/-- A dot of a 640x200 graphics character (65_video.md R660). -/
def State.dot640 (s : State) (p : Nat) : BitVec 4 :=
  let b := s.vram (s.video.graphicsAddr + p / 8)
  if b.getLsbD (7 - p % 8) then s.video.vcolor.setWidth 4 else 0

/-- The mode is 640x200 (65_video.md R646). -/
def Video.is640 (v : Video) : Bool := v.vmode.getLsbD 1 && v.vmode.getLsbD 4

/-- One dot at a position of the current character (65_video.md R660). -/
def State.dot (s : State) (p : Nat) : BitVec 4 :=
  let v := s.video
  if v.inHsync || v.inVsync then 0
  else if v.rstate ≠ .visible then if v.is640 then 0 else v.vcolor.setWidth 4
  else if !v.vmode.getLsbD 3 then 0
  else if !v.vmode.getLsbD 1 then s.textDot p
  else if v.vmode.getLsbD 4 then s.dot640 p
  else s.dot320 p

/-! ## The counters -/

/-- The vertical checks at the start of a row (65_video.md R653, `RowChecks`). -/
def Video.rowChecks (v : Video) : Video :=
  let u := if v.vcc = v.crtc.r6 then { v with vdisp := false } else v
  if u.vcc = u.crtc.r7 ∧ ¬u.inVsync then { u with inVsync := true, vsc := 0 } else u

/-- A new frame (65_video.md R653, `NewFrame`). -/
def Video.newFrame (v : Video) : Video :=
  { v with
    vcc := 0, vlc := 0, inVta := false, vtac := 0, vdisp := decide (v.crtc.r6 ≠ 0), vmaRow := v.crtc.r12 ++ v.crtc.r13
    frame := v.frame + 1, lineNo := 0 }.rowChecks

/-- The vertical sync width counter at the end of a scanline (65_video.md R653). -/
def Video.vsyncStep (v : Video) : Video :=
  if v.inVsync then { v with vsc := v.vsc + 1, inVsync := decide (v.vsc + 1 ≠ BitVec.ofNat 5 Config.vsyncLines) } else v

/-- The scanline that just ended is the last of its frame (65_video.md R653). -/
def Video.endsFrame (v : Video) : Bool :=
  if v.inVta then decide (v.vtac + 1 = v.crtc.r5)
  else decide (v.vlc = v.crtc.r9 ∧ v.vcc = v.crtc.r4 ∧ v.crtc.r5 = 0)

/-- The vertical counters at the end of a scanline (65_video.md R653, `NewScanline`). -/
def Video.newScanline (v : Video) : Video :=
  let u := { v.vsyncStep with lineNo := v.lineNo + 1 }
  if u.inVta then
    if u.vtac + 1 = u.crtc.r5 then { u with vtac := u.vtac + 1 }.newFrame else { u with vtac := u.vtac + 1 }
  else if u.vlc = u.crtc.r9 then
    if u.vcc = u.crtc.r4 then
      if u.crtc.r5 = 0 then u.newFrame else { u with inVta := true, vtac := 0, vlc := 0 }
    else
      { u with vlc := 0, vcc := u.vcc + 1, vmaRow := u.vmaRow + u.crtc.r1.setWidth 14 }.rowChecks
  else { u with vlc := u.vlc + 1 }

/-- The horizontal checks after the character counter moved (65_video.md R652). -/
def Video.characterChecks (v : Video) : Video :=
  let a := if v.hcc = v.crtc.r1 then { v with hdisp := false } else v
  let b := if a.inHsync then { a with hsc := a.hsc + 1, inHsync := decide (a.hsc + 1 ≠ a.crtc.r3) } else a
  if b.hcc = b.crtc.r2 ∧ b.crtc.r3 ≠ 0 ∧ ¬b.inHsync then { b with inHsync := true, hsc := 0 } else b

/-- The counters of the character clock (65_video.md R652). -/
def Video.characterClock (v : Video) : Video :=
  if v.hcc = v.crtc.r0 then
    let u := { v with hcc := 0, hdisp := decide (v.crtc.r1 ≠ 0) }.newScanline
    { u with vma := u.vmaRow, rowBuf := [] }.characterChecks
  else { v with hcc := v.hcc + 1, vma := v.vma + 1 }.characterChecks

/-- What the host receives at the end of a scanline (65_video.md R662). -/
def Video.scanlineEvents (v : Video) : List HostEvent :=
  if v.hcc = v.crtc.r0 then
    (if v.endsFrame then [.frameEnd v.vmode v.vcolor (v.lineNo + 1)] else []) ++ [.scanline v.lineNo v.rowBuf]
  else []

/-- The character clock of the block (65_video.md R652, R662). -/
def State.characterClock (s : State) : State :=
  { s with
    video := (s.video.characterClock).latchClocking s.params.clockSwitchPause
    host := { s.host with out := s.host.out ++ s.video.scanlineEvents } }

/-! ## The clocking -/

/-- Put dots into the row being built. -/
def State.putDots (s : State) (dots : List (BitVec 4)) : State :=
  { s with video := { s.video with rowBuf := s.video.rowBuf ++ dots } }

/-- One dot clock in the cycle-clocked mode (65_video.md R651). -/
def State.dotClock (s : State) : State :=
  let t := s.putDots [s.dot s.video.charPhase]
  if t.video.charPhase + 1 = t.video.charWidth then
    { t with video := { t.video with charPhase := 0 } }.characterClock
  else { t with video := { t.video with charPhase := t.video.charPhase + 1 } }

/-- The adapter's step of a tick (65_video.md R651).
A clocking that is latched after a dot of the tick does not change the tick: its remaining dots are emitted as it began, and no
pause comes before the next tick (DESIGN CHOICE, log entry 38). -/
def State.videoTick (s : State) : State :=
  let v := s.video
  if 0 < v.switchPending then { s with video := { v with switchPending := v.switchPending - 1 } }
  else match v.clkMode with
    | .cycleClocked => s.dotClock.dotClock.dotClock
    | .charClocked =>
      if v.charWidth ≤ v.charPhase + 3 then
        { s.putDots ((List.range v.charWidth).map s.dot) with
          video := { (s.putDots ((List.range v.charWidth).map s.dot)).video with
            charPhase := v.charPhase + 3 - v.charWidth } }.characterClock
      else { s with video := { v with charPhase := v.charPhase + 3 } }

end Sys2Proof.Machine
end

