-- ==== Sys2Proof/Machine/Ports.lean ====
section
/-!
DEFINITION. The port space and the bus accesses (20_memory.md R80, R91 to R94; 50_pipeline_bus_timing.md R380, R383): which
device a port reaches, and the effect of one byte access of any type.
-/
namespace Sys2Proof.Machine

/-- The devices that answer ports (20_memory.md R93). -/
inductive PortDevice where
  | dma | pic | pit | ppi | page | video | none
deriving DecidableEq, Repr

/-- The device whose port range contains a port (20_memory.md R93). -/
def portDevice (p : Word) : PortDevice :=
  if p.toNat < 0x10 then .dma
  else if 0x20 ≤ p.toNat ∧ p.toNat < 0x22 then .pic
  else if 0x40 ≤ p.toNat ∧ p.toNat < 0x44 then .pit
  else if 0x60 ≤ p.toNat ∧ p.toNat < 0x64 then .ppi
  else if 0x80 ≤ p.toNat ∧ p.toNat < 0x84 then .page
  else if 0x3D0 ≤ p.toNat ∧ p.toNat < 0x3E0 then .video
  else .none

/-- A handler of the host answers this port: no device of the block does, and it lies in a range given at construction
(70_reset_and_hazards.md R712; DESIGN CHOICE, log entry 23). -/
def State.externalPort (s : State) (p : Word) : Bool :=
  decide (portDevice p = .none) && s.params.extPorts.any (·.contains p.toNat)

/-- A read of a timer port (62_pit.md R522). -/
def Pit.read (p : Pit) (port : BitVec 2) : Byte × Pit :=
  match port.toNat with
  | 0 => (p.c0.readCount.1, { p with c0 := p.c0.readCount.2 })
  | 1 => (p.c1.readCount.1, { p with c1 := p.c1.readCount.2 })
  | 2 => (p.c2.readCount.1, { p with c2 := p.c2.readCount.2 })
  | _ => (0xFF, p)

/-- A write to a timer port (62_pit.md R522). -/
def Pit.write (p : Pit) (port : BitVec 2) (v : Byte) : Pit :=
  match port.toNat with
  | 0 => { p with c0 := p.c0.writeCount v }
  | 1 => { p with c1 := p.c1.writeCount v }
  | 2 => { p with c2 := p.c2.writeCount v }
  | _ => p.writeControl v

/-- A read of an interrupt controller port (61_pic.md R482). -/
def Pic.read (p : Pic) (data : Bool) (free : Byte) : Byte × Pic :=
  if p.poll then p.pollRead free else (if data then p.imr else p.readCommand, p)

/-- `PortRead(p, 1)`: a read of one port byte with its side effects; 0xFF where neither a device
nor a handler of the host answers (20_memory.md R92, 70_reset_and_hazards.md R712). -/
def State.portRead (s : State) (p : Word) : Byte × State :=
  let free := Config.deviceByte s.host.draws
  match portDevice p with
  | .dma =>
    let (b, d) := s.dma.read (p.setWidth 4) s.lines.dreq free
    (b, { s.drewDevice with dma := d })
  | .pic =>
    let (b, d) := s.pic.read (p.getLsbD 0) free
    (b, { s.drewDevice with pic := d })
  | .pit =>
    let (b, d) := s.pit.read (p.setWidth 2)
    (b, { s with pit := d })
  | .ppi => (s.ppi.read s.params (s.lines.out.getLsbD 2) (p.setWidth 2) free, s.drewDevice)
  | .page => (0xFF, s)
  | .video => (s.video.read (p.setWidth 4) free, s.drewDevice)
  | .none => if s.externalPort p then s.extRead (.extPortRead p) else (0xFF, s)

/-- `PortWrite(p, 1, v)`: a write of one port byte; dropped where neither a device nor a handler of the
host answers (20_memory.md R92, 70_reset_and_hazards.md R712). -/
def State.portWrite (s : State) (p : Word) (v : Byte) : State :=
  match portDevice p with
  | .dma => { s with dma := s.dma.write (p.setWidth 4) v }
  | .pic => { s with pic := if p.getLsbD 0 then s.pic.writeData s.params.picImrDelay v else s.pic.writeCommand v }
  | .pit => { s with pit := s.pit.write (p.setWidth 2) v }
  | .ppi => { s with ppi := s.ppi.write (p.setWidth 2) v }
  | .page => { s with dma := s.dma.writePage (p.setWidth 2) v }
  | .video => { s with video := s.video.write s.params.clockSwitchPause (p.setWidth 4) v }
  | .none => if s.externalPort p then s.extWrite (.extPortWrite p v) else s

/-- An interrupt acknowledge cycle: the first one selects, its byte is meaningless; the second one answers the vector
(61_pic.md R496). -/
def State.intaCycle (s : State) : Byte × State :=
  if s.pic.intaPhase then (s.pic.vector, { s with pic := s.pic.ackSecond })
  else (Config.deviceByte s.host.draws, { s.drewDevice with pic := s.pic.ackFirst })

/-- The effect of one byte access, with the byte it moves (50_pipeline_bus_timing.md R380, R383). -/
def State.access (s : State) (r : BusReq) : Byte × State :=
  match r with
  | .code a => s.physRead a
  | .memR a => s.physRead a
  | .memW a v => (v, s.physWrite a v)
  | .ioR p => s.portRead p
  | .ioW p v => (v, s.portWrite p v)
  | .inta => s.intaCycle

/-- The type of a bus cycle (50_pipeline_bus_timing.md R380). -/
def BusReq.cycle : BusReq → CycleType
  | .code _ => .code
  | .memR _ => .memR
  | .memW _ _ => .memW
  | .ioR _ => .ioR
  | .ioW _ _ => .ioW
  | .inta => .inta

/-- The address of a bus cycle's trace record; a port number in its low bits, none for an acknowledge cycle
(10_state.md R29). -/
def BusReq.addr : BusReq → Option Addr
  | .code a | .memR a | .memW a _ => some a
  | .ioR p | .ioW p _ => some (p.setWidth 20)
  | .inta => none

/-- `WAIT_STATES(type)` (50_pipeline_bus_timing.md R381). -/
def CycleType.waits : CycleType → Nat
  | .ioR | .ioW => Config.ioWaitStates
  | .code | .memR | .memW | .inta => 0

/-- Append a record to the trace ring being filled (50_pipeline_bus_timing.md R384, R405). -/
def State.log (s : State) (r : BusReq) (data : Byte) (tick : Nat) : State :=
  { s with biu := { s.biu with
      trace := s.biu.trace ++ [{ addr := r.addr, data := data, cycle := r.cycle, tick := tick }] } }

/-- One byte access of a Level A step: its effect and its trace record (20_memory.md R94). -/
def State.perform (s : State) (r : BusReq) : Byte × State :=
  let (b, t) := s.access r
  (b, t.log r b s.biu.ticks)

end Sys2Proof.Machine
end

