-- ==== Sys2Proof/Machine/Ops.lean ====
section
/-!
DEFINITION. The named operations the meanings are built from: the registers, the program of an instruction (its byte accesses
in order), memory, port and stack accesses, the flush, the end of an instruction, interrupt entry and return from it
(20_memory.md R83 to R92; 60_exceptions.md R436; 44_control_transfer.md R289, R314).
-/
namespace Sys2Proof.Machine

/-! ## Registers (10_state.md R10, R11, R14) -/

/-- `reg16[r]`. -/
def Cpu.r16 (c : Cpu) : Reg16 → Word
  | .ax => c.ax | .cx => c.cx | .dx => c.dx | .bx => c.bx | .sp => c.sp | .bp => c.bp | .si => c.si | .di => c.di

/-- `reg16[r] <- v` (30_encoding.md R135). -/
def Cpu.set16 (c : Cpu) (r : Reg16) (v : Word) : Cpu :=
  match r with
  | .ax => { c with ax := v } | .cx => { c with cx := v } | .dx => { c with dx := v } | .bx => { c with bx := v }
  | .sp => { c with sp := v } | .bp => { c with bp := v } | .si => { c with si := v } | .di => { c with di := v }

/-- `reg8[r]`. -/
def Cpu.r8 (c : Cpu) : Reg8 → Byte
  | .al => loByte c.ax | .cl => loByte c.cx | .dl => loByte c.dx | .bl => loByte c.bx
  | .ah => hiByte c.ax | .ch => hiByte c.cx | .dh => hiByte c.dx | .bh => hiByte c.bx

/-- `reg8[r] <- v`: the other half stays (30_encoding.md R135). -/
def Cpu.set8 (c : Cpu) (r : Reg8) (v : Byte) : Cpu :=
  match r with
  | .al => { c with ax := joinBytes (hiByte c.ax) v } | .cl => { c with cx := joinBytes (hiByte c.cx) v }
  | .dl => { c with dx := joinBytes (hiByte c.dx) v } | .bl => { c with bx := joinBytes (hiByte c.bx) v }
  | .ah => { c with ax := joinBytes v (loByte c.ax) } | .ch => { c with cx := joinBytes v (loByte c.cx) }
  | .dh => { c with dx := joinBytes v (loByte c.dx) } | .bh => { c with bx := joinBytes v (loByte c.bx) }

/-- `sreg[r]`. -/
def Cpu.seg (c : Cpu) : SReg → Word
  | .es => c.es | .cs => c.cs | .ss => c.ss | .ds => c.ds

/-- `sreg[r] <- v`. -/
def Cpu.setSeg (c : Cpu) (r : SReg) (v : Word) : Cpu :=
  match r with
  | .es => { c with es := v } | .cs => { c with cs := v } | .ss => { c with ss := v } | .ds => { c with ds := v }

/-- The segment of an overridable access: the override if there is one (20_memory.md R89). -/
def Cpu.segOr (c : Cpu) (r : SReg) : Word := c.seg (c.segOverride.getD r)

/-! ## Programs -/

/-- What an instruction or an interrupt entry does, as the byte accesses it makes in order (50_pipeline_bus_timing.md R390).
Level A runs it at once, Level T one access at a time. -/
inductive Prog where
  /-- The instruction is complete. -/
  | retire (c : Cpu)
  /-- It is complete with a control transfer: the queue is flushed. -/
  | transfer (c : Cpu)
  /-- A mark that comes before an instruction, or one iteration of a repeated string instruction that goes on. -/
  | more (c : Cpu)
  /-- The registers and flags are those of `c` from here on (50_pipeline_bus_timing.md R390). -/
  | note (c : Cpu) (p : Prog)
  /-- One byte access; its byte decides what follows. -/
  | bus (r : BusReq) (k : Byte → Prog)
  /-- A look at the TEST line. -/
  | test (k : Bool → Prog)

/-- The decode state is cleared when an instruction completes (30_encoding.md R122, 43_string.md R276). -/
def Cpu.endInstr (c : Cpu) : Cpu :=
  { c with segOverride := none, repMark := none, lockMark := false, prefixes := [], repActive := none }

/-- One more mark of the instruction in hand (30_encoding.md R120, R122). -/
def Cpu.marked (c : Cpu) (i : Instr) : Cpu := { c with prefixes := c.prefixes ++ [i] }

/-- A flush: the queue is emptied, and the byte of a code fetch in progress will be dropped
(50_pipeline_bus_timing.md R388). -/
def Biu.flush (b : Biu) : Biu :=
  { b with
    q := []
    cur := b.cur.map fun x => if x.req.cycle = .code then { x with discard := true } else x }

/-- Complete an instruction. -/
def State.retire (s : State) (c : Cpu) : State := { s with cpu := c.endInstr }

/-- Complete an instruction with a control transfer (44_control_transfer.md R289). -/
def State.transfer (s : State) (c : Cpu) : State := { s with cpu := c.endInstr, biu := s.biu.flush }

/-- Run a program at once: Level A (00_scope.md R6), where no register can be seen before the end. -/
def Prog.run : Prog → State → State
  | .retire c, s => s.retire c
  | .transfer c, s => s.transfer c
  | .more c, s => { s with cpu := c }
  | .note _ p, s => p.run s
  | .bus r k, s => (k (s.perform r).1).run (s.perform r).2
  | .test k, s => (k s.lines.test).run s

/-- The program, run at once, ends with a control transfer. -/
def Prog.flushes : Prog → State → Bool
  | .transfer _, _ => true
  | .retire _, _ | .more _, _ => false
  | .note _ p, s => p.flushes s
  | .bus r k, s => (k (s.perform r).1).flushes (s.perform r).2
  | .test k, s => (k s.lines.test).flushes s

/-- The meaning a program has as a Level A step: it always completes, since nothing stops this machine
(30_encoding.md R147, 60_exceptions.md R431). -/
def commit (p : Cpu → Prog) (s : State) : Host.Outcome State Fault Refusal := .next ((p s.cpu).run s)

/-! ## Memory and ports (20_memory.md R83, R86, R87, R92) -/

/-- `MemRead(seg, off, 1)`. -/
def readByte (seg off : Word) (k : Byte → Prog) : Prog := .bus (.memR (phys seg off)) k

/-- `MemRead(seg, off, 2)`: the low byte first, the high byte at the next offset of the segment. -/
def readWord (seg off : Word) (k : Word → Prog) : Prog :=
  readByte seg off fun lo => readByte seg (off + 1) fun hi => k (joinBytes hi lo)

/-- `MemWrite(seg, off, 1, v)`. -/
def writeByte (seg off : Word) (v : Byte) (next : Prog) : Prog := .bus (.memW (phys seg off) v) fun _ => next

/-- `MemWrite(seg, off, 2, v)`: the low byte first. -/
def writeWord (seg off : Word) (v : Word) (next : Prog) : Prog :=
  writeByte seg off (loByte v) (writeByte seg (off + 1) (hiByte v) next)

/-- `PortRead(p, 1)`. -/
def inByte (p : Word) (k : Byte → Prog) : Prog := .bus (.ioR p) k

/-- `PortRead(p, 2)`: the low byte first, each byte at its own port. -/
def inWord (p : Word) (k : Word → Prog) : Prog := inByte p fun lo => inByte (p + 1) fun hi => k (joinBytes hi lo)

/-- `PortWrite(p, 1, v)`. -/
def outByte (p : Word) (v : Byte) (next : Prog) : Prog := .bus (.ioW p v) fun _ => next

/-- `PortWrite(p, 2, v)`: the low byte first. -/
def outWord (p : Word) (v : Word) (next : Prog) : Prog := outByte p (loByte v) (outByte (p + 1) (hiByte v) next)

/-! ## The stack (20_memory.md R90) -/

/-- `Push16(v)`: SP moves before the write. -/
def push16 (v : Word) (c : Cpu) (k : Cpu → Prog) : Prog :=
  let d := { c with sp := c.sp - 2 }
  .note d (writeWord c.ss d.sp v (k d))

/-- `Pop16()`: SP moves after the read. -/
def pop16 (c : Cpu) (k : Word → Cpu → Prog) : Prog :=
  readWord c.ss c.sp fun v =>
    let d := { c with sp := c.sp + 2 }
    .note d (k v d)

/-! ## Interrupt entry and return -/

/-- The physical address of byte `i` of a vector's entry (60_exceptions.md R433). -/
def vectorAddr (n : Byte) (i : Nat) : Addr := BitVec.ofNat 20 (4 * n.toNat + i)

/-- Read a vector's entry: the new IP, then the new CS (60_exceptions.md R433, R436). -/
def readVector (n : Byte) (k : (ip cs : Word) → Prog) : Prog :=
  .bus (.memR (vectorAddr n 0)) fun b0 => .bus (.memR (vectorAddr n 1)) fun b1 =>
  .bus (.memR (vectorAddr n 2)) fun b2 => .bus (.memR (vectorAddr n 3)) fun b3 =>
  k (joinBytes b1 b0) (joinBytes b3 b2)

/-- The flags an entry leaves: IF and TF cleared (60_exceptions.md R436). -/
def Flags.masked (f : Flags) : Flags := { f with ifl := false, tf := false }

/-- `Entry(n, ip)` (60_exceptions.md R436): the image, CS and the return offset are pushed, IF and TF cleared, the vector
read, and the handler begun. -/
def enter (n : Byte) (ip : Word) (c : Cpu) : Prog :=
  push16 c.flags.image c fun c1 =>
  push16 c1.cs { c1 with flags := c1.flags.masked } fun c2 =>
  push16 ip c2 fun c3 =>
  readVector n fun newIp newCs =>
  .transfer { c3 with ip := newIp, cs := newCs, halted := false, waiting := false, repActive := none }

/-- The divide error: entry 0 with the offset of the next instruction, the six flags free (60_exceptions.md R437, R438). -/
def divideError (c : Cpu) : Prog := enter 0 c.ip c.divided

/-- The return from an entry: IP, CS and the flags are popped (44_control_transfer.md R314, 60_exceptions.md R450). -/
def leave (c : Cpu) : Prog :=
  pop16 c fun ip c1 => pop16 c1 fun cs c2 => pop16 c2 fun v c3 =>
  .transfer { c3 with ip := ip, cs := cs, flags := Flags.ofImage v }

/-- A near transfer (44_control_transfer.md R289). -/
def jumpTo (ip : Word) (c : Cpu) : Prog := .transfer { c with ip := ip }

/-- A far transfer (44_control_transfer.md R289). -/
def jumpFar (cs ip : Word) (c : Cpu) : Prog := .transfer { c with cs := cs, ip := ip }

end Sys2Proof.Machine
end

