-- ==== Sys2Proof/Machine/Operands.lean ====
section
/-!
DEFINITION. The operand forms (30_encoding.md R124 to R135): effective addresses, and reading and writing an operand of either
width wherever it is.
-/
namespace Sys2Proof.Machine

/-- The register part of an offset (30_encoding.md R125). -/
def Cpu.baseSum (c : Cpu) : Base → Word
  | .bxsi => c.bx + c.si | .bxdi => c.bx + c.di | .bpsi => c.bp + c.si | .bpdi => c.bp + c.di
  | .si => c.si | .di => c.di | .bp => c.bp | .bx => c.bx

/-- The default segment of a base (30_encoding.md R125). -/
def baseSegment : Base → SReg
  | .bpsi | .bpdi | .bp => .ss
  | .bxsi | .bxdi | .si | .di | .bx => .ds

/-- The offset of a memory operand (30_encoding.md R125, R131). -/
def Cpu.offset (c : Cpu) : Mem → Word
  | .noDisp b => c.baseSum b
  | .direct d => d
  | .disp8 b d => c.baseSum b + sext d
  | .disp16 b d => c.baseSum b + d

/-- The default segment of a memory operand (30_encoding.md R125, 20_memory.md R89). -/
def memSegment : Mem → SReg
  | .noDisp b | .disp8 b _ | .disp16 b _ => baseSegment b
  | .direct _ => .ds

/-- The segment of a memory operand (30_encoding.md R131). -/
def Cpu.memSeg (c : Cpu) (m : Mem) : Word := c.segOr (memSegment m)

/-- Where an operand is, computed once before any access (30_encoding.md R131). -/
inductive Place (R : Type) where
  | reg (r : R)
  | mem (seg off : Word)
deriving DecidableEq, Repr

/-- The place of an `r/m` operand (30_encoding.md R131). -/
def Cpu.place {R : Type} (c : Cpu) : RM R → Place R
  | .reg r => .reg r
  | .mem m => .mem (c.memSeg m) (c.offset m)

/-- An operand width: its registers, its accumulator and its memory and port accesses (30_encoding.md R132 to R135). -/
structure Width (n : Nat) (R : Type) where
  get : Cpu → R → BitVec n
  set : Cpu → R → BitVec n → Cpu
  acc : R
  read : Word → Word → (BitVec n → Prog) → Prog
  write : Word → Word → BitVec n → Prog → Prog
  input : Word → (BitVec n → Prog) → Prog
  output : Word → BitVec n → Prog → Prog
  /-- The bytes of an element, by which the string instructions move their index (43_string.md R275). -/
  bytes : Word

/-- Byte operands. -/
def byteWidth : Width 8 Reg8 :=
  { get := Cpu.r8, set := Cpu.set8, acc := .al, read := readByte, write := writeByte, input := inByte, output := outByte
    bytes := 1 }

/-- Word operands. -/
def wordWidth : Width 16 Reg16 :=
  { get := Cpu.r16, set := Cpu.set16, acc := .ax, read := readWord, write := writeWord, input := inWord, output := outWord
    bytes := 2 }

/-- `ReadRM` at a place (30_encoding.md R132). -/
def Width.load {n : Nat} {R : Type} (w : Width n R) (c : Cpu) (p : Place R) (k : BitVec n → Prog) : Prog :=
  match p with
  | .reg r => k (w.get c r)
  | .mem seg off => w.read seg off k

/-- `WriteRM` at a place (30_encoding.md R133); the flags of the instruction stand before a write to memory. -/
def Width.store {n : Nat} {R : Type} (w : Width n R) (c : Cpu) (p : Place R) (v : BitVec n) (k : Cpu → Prog) : Prog :=
  match p with
  | .reg r => k (w.set c r v)
  | .mem seg off => .note c (w.write seg off v (k c))

/-- Read a far pointer in memory: the offset, then the segment (40_data_transfer.md R184). -/
def readPointer (m : Mem) (c : Cpu) (k : (off seg : Word) → Prog) : Prog :=
  readWord (c.memSeg m) (c.offset m) fun o => readWord (c.memSeg m) (c.offset m + 2) fun s => k o s

end Sys2Proof.Machine
end

