-- ==== Sys2Proof/Machine/Arith.lean ====
section
/-!
DEFINITION. The computations of the arithmetic and logic instructions, each once for both widths: the eight two-operand
operations, the one-operand ones, the decimal adjusts, multiply, divide, shift and rotate (41_arithmetic.md, 42_logic_shift.md).
The instructions themselves are in ArithInstr.lean.
-/
namespace Sys2Proof.Machine

/-! ## The eight two-operand operations (41_arithmetic.md R231) -/

/-- The operations ADD 0, OR 1, ADC 2, SBB 3, AND 4, SUB 5, XOR 6, CMP 7. -/
inductive AluOp where
  | add | or | adc | sbb | and | sub | xor | cmp
deriving DecidableEq, Repr

/-- The result of `dst OP src` (41_arithmetic.md R200 to R204, 42_logic_shift.md R240 to R242). -/
def AluOp.result {n : Nat} (op : AluOp) (cf : Bool) (a b : BitVec n) : BitVec n :=
  match op with
  | .add => addWith a b false
  | .or => a ||| b
  | .adc => addWith a b cf
  | .sbb => subWith a b cf
  | .and => a &&& b
  | .sub => subWith a b false
  | .xor => a ^^^ b
  | .cmp => subWith a b false

/-- The CPU after the flags of `dst OP src` are set (10_state.md R22 to R24). -/
def Cpu.alu {n : Nat} (c : Cpu) (op : AluOp) (a b : BitVec n) : Cpu :=
  match op with
  | .add => { c with flags := c.flags.add a b false }
  | .adc => { c with flags := c.flags.add a b c.flags.cf }
  | .sub | .cmp => { c with flags := c.flags.sub a b false }
  | .sbb => { c with flags := c.flags.sub a b c.flags.cf }
  | .or => { c with flags := c.flags.logic (a ||| b) (c.freeBit 0) }.drew
  | .and => { c with flags := c.flags.logic (a &&& b) (c.freeBit 0) }.drew
  | .xor => { c with flags := c.flags.logic (a ^^^ b) (c.freeBit 0) }.drew

/-- Set the flags and write the result, which CMP does not (41_arithmetic.md R231). -/
def aluInto {n : Nat} {R : Type} (w : Width n R) (op : AluOp) (p : Place R) (a b : BitVec n) (c : Cpu) : Prog :=
  if op = .cmp then .retire (c.alu op a b) else w.store (c.alu op a b) p (op.result c.flags.cf a b) .retire

/-- `OP r/m, reg` (41_arithmetic.md R231). -/
def aluRmReg {n : Nat} {R : Type} (w : Width n R) (op : AluOp) (rm : RM R) (reg : R) (c : Cpu) : Prog :=
  w.load c (c.place rm) fun a => aluInto w op (c.place rm) a (w.get c reg) c

/-- `OP reg, r/m` (41_arithmetic.md R231). -/
def aluRegRm {n : Nat} {R : Type} (w : Width n R) (op : AluOp) (reg : R) (rm : RM R) (c : Cpu) : Prog :=
  w.load c (c.place rm) fun b => aluInto w op (.reg reg) (w.get c reg) b c

/-- `OP acc, imm` (41_arithmetic.md R231). -/
def aluAcc {n : Nat} {R : Type} (w : Width n R) (op : AluOp) (imm : BitVec n) (c : Cpu) : Prog :=
  aluInto w op (.reg w.acc) (w.get c w.acc) imm c

/-- `OP r/m, imm` (41_arithmetic.md R231). -/
def aluRmImm {n : Nat} {R : Type} (w : Width n R) (op : AluOp) (rm : RM R) (imm : BitVec n) (c : Cpu) : Prog :=
  w.load c (c.place rm) fun a => aluInto w op (c.place rm) a imm c

/-- TEST: the flags of `a and b`, nothing written (42_logic_shift.md R243). -/
def testing {n : Nat} (a b : BitVec n) (c : Cpu) : Prog :=
  .retire { c with flags := c.flags.logic (a &&& b) (c.freeBit 0) }.drew

/-- `TEST r/m, reg` (42_logic_shift.md R243). -/
def testRmReg {n : Nat} {R : Type} (w : Width n R) (rm : RM R) (reg : R) (c : Cpu) : Prog :=
  w.load c (c.place rm) fun a => testing a (w.get c reg) c

/-- `TEST acc, imm` (42_logic_shift.md R243). -/
def testAcc {n : Nat} {R : Type} (w : Width n R) (imm : BitVec n) (c : Cpu) : Prog := testing (w.get c w.acc) imm c

/-- `TEST r/m, imm` (42_logic_shift.md R243). -/
def testRmImm {n : Nat} {R : Type} (w : Width n R) (rm : RM R) (imm : BitVec n) (c : Cpu) : Prog :=
  w.load c (c.place rm) fun a => testing a imm c

/-! ## One operand -/

/-- `dst <- f dst` with the CPU changed by `g dst` first. -/
def modify {n : Nat} {R : Type} (w : Width n R) (rm : RM R) (f : BitVec n → BitVec n) (g : BitVec n → Cpu → Cpu) (c : Cpu) :
    Prog :=
  w.load c (c.place rm) fun a => w.store (g a c) (c.place rm) (f a) .retire

/-- INC (41_arithmetic.md R205). -/
def incRm {n : Nat} {R : Type} (w : Width n R) (rm : RM R) (c : Cpu) : Prog :=
  modify w rm (fun a => a + 1) (fun a c => { c with flags := c.flags.inc a }) c

/-- DEC (41_arithmetic.md R206). -/
def decRm {n : Nat} {R : Type} (w : Width n R) (rm : RM R) (c : Cpu) : Prog :=
  modify w rm (fun a => a - 1) (fun a c => { c with flags := c.flags.dec a }) c

/-- NEG (41_arithmetic.md R207). -/
def negRm {n : Nat} {R : Type} (w : Width n R) (rm : RM R) (c : Cpu) : Prog :=
  modify w rm (fun a => 0 - a) (fun a c => { c with flags := c.flags.sub 0 a false }) c

/-- NOT (42_logic_shift.md R244). -/
def notRm {n : Nat} {R : Type} (w : Width n R) (rm : RM R) (c : Cpu) : Prog :=
  modify w rm (fun a => ~~~a) (fun _ c => c) c

/-! ## Shift and rotate (42_logic_shift.md R248) -/

/-- The seven operations of group 2. -/
inductive ShiftOp where
  | rol | ror | rcl | rcr | shl | shr | sar
deriving DecidableEq, Repr

/-- One bit of a shift or rotate: CF and the operand after it (42_logic_shift.md R250 to R256). -/
def ShiftOp.step {n : Nat} (op : ShiftOp) (x : Bool × BitVec n) : Bool × BitVec n :=
  let a := x.2
  match op with
  | .rol => (a.msb, a <<< 1 ||| BitVec.ofNat n (bitOf a.msb))
  | .ror => (a.getLsbD 0, putBit (a >>> 1) (n - 1) (a.getLsbD 0))
  | .rcl => (a.msb, a <<< 1 ||| BitVec.ofNat n (bitOf x.1))
  | .rcr => (a.getLsbD 0, putBit (a >>> 1) (n - 1) x.1)
  | .shl => (a.msb, a <<< 1)
  | .shr => (a.getLsbD 0, a >>> 1)
  | .sar => (a.getLsbD 0, putBit (a >>> 1) (n - 1) a.msb)

/-- `count` repetitions of the one-bit step (42_logic_shift.md R248). -/
def ShiftOp.steps {n : Nat} (op : ShiftOp) : (count : Nat) → Bool × BitVec n → Bool × BitVec n
  | 0, x => x
  | k + 1, x => op.steps k (op.step x)

/-- OF after a count of 1, from the operand before, and the operand and CF after (42_logic_shift.md R250 to R256). -/
def ShiftOp.overflow {n : Nat} (op : ShiftOp) (before after : BitVec n) (cf : Bool) : Bool :=
  match op with
  | .rol | .rcl | .shl => after.msb ^^ cf
  | .ror | .rcr => after.msb ^^ after.getLsbD (n - 2)
  | .shr => before.msb
  | .sar => false

/-- The operation is a shift, which also sets SF, ZF, PF and leaves AF free; a rotate does not (42_logic_shift.md R248). -/
def ShiftOp.isShift : ShiftOp → Bool
  | .shl | .shr | .sar => true
  | .rol | .ror | .rcl | .rcr => false

/-- The result of a shift or rotate. -/
def ShiftOp.result {n : Nat} (op : ShiftOp) (count : Nat) (cf : Bool) (a : BitVec n) : BitVec n :=
  (op.steps count (cf, a)).2

/-- CF and OF of a shift or rotate with a count of at least 1 (42_logic_shift.md R248). -/
def Flags.shifted {n : Nat} (f : Flags) (op : ShiftOp) (count : Nat) (a : BitVec n) (freeOf : Bool) : Flags :=
  let x := op.steps count (f.cf, a)
  { f with cf := x.1, ovf := if count = 1 then op.overflow a x.2 x.1 else freeOf }

/-- The CPU after the flags of a shift or rotate are set; a count of 0 changes none (42_logic_shift.md R248). -/
def Cpu.shifted {n : Nat} (c : Cpu) (op : ShiftOp) (count : Nat) (a : BitVec n) : Cpu :=
  if count = 0 then c
  else
    let f := c.flags.shifted op count a (c.freeBit 0)
    { c with flags :=
        if op.isShift then { f.setSzp (op.result count c.flags.cf a) with af := c.freeBit 1 } else f }.drew

/-- A shift or rotate of an operand, read once and written once whatever the count (42_logic_shift.md R248). -/
def shiftRm {n : Nat} {R : Type} (w : Width n R) (op : ShiftOp) (rm : RM R) (count : Nat) (c : Cpu) : Prog :=
  modify w rm (fun a => op.result count c.flags.cf a) (fun a c => c.shifted op count a) c

/-- A shift or rotate by the whole of CL (42_logic_shift.md R248). -/
def shiftRmCl {n : Nat} {R : Type} (w : Width n R) (op : ShiftOp) (rm : RM R) (c : Cpu) : Prog :=
  shiftRm w op rm (loByte c.cx).toNat c

/-! ## Multiply and divide (41_arithmetic.md R220 to R223) -/

/-- MUL by a byte. -/
def Cpu.mulByte (c : Cpu) (b : Byte) : Cpu :=
  let p := zext (c.r8 .al) * zext b
  { c with ax := p, flags := c.multiplyFlags (decide (hiByte p ≠ 0)) }.drew

/-- The 32-bit value DX:AX. -/
def Cpu.dxax (c : Cpu) : BitVec 32 := c.dx ++ c.ax

/-- DX:AX <- p. -/
def Cpu.setDxax (c : Cpu) (p : BitVec 32) : Cpu := { c with dx := p.extractLsb' 16 16, ax := p.extractLsb' 0 16 }

/-- MUL by a word. -/
def Cpu.mulWord (c : Cpu) (b : Word) : Cpu :=
  let p : BitVec 32 := c.ax.setWidth 32 * b.setWidth 32
  { c.setDxax p with flags := c.multiplyFlags (decide (p.extractLsb' 16 16 ≠ 0)) }.drew

/-- IMUL by a byte. -/
def Cpu.imulByte (c : Cpu) (b : Byte) : Cpu :=
  let p := sext (c.r8 .al) * sext b
  { c with ax := p, flags := c.multiplyFlags (decide (p ≠ sext (loByte p))) }.drew

/-- IMUL by a word. -/
def Cpu.imulWord (c : Cpu) (b : Word) : Cpu :=
  let p : BitVec 32 := c.ax.signExtend 32 * b.signExtend 32
  { c.setDxax p with flags := c.multiplyFlags (decide (p ≠ (p.extractLsb' 0 16).signExtend 32)) }.drew

/-- Unsigned quotient and remainder, or none where the division errs: a divisor 0, or a quotient above the operand width
(41_arithmetic.md R222). -/
def divide {m n : Nat} (dividend : BitVec m) (divisor : BitVec n) : Option (BitVec n × BitVec n) :=
  let q := dividend.toNat / divisor.toNat
  if divisor = 0 ∨ 2 ^ n ≤ q then none
  else some (BitVec.ofNat n q, BitVec.ofNat n (dividend.toNat % divisor.toNat))

/-- Signed quotient, rounded toward zero, and remainder with the dividend's sign, or none where the division errs: a divisor
0, or a quotient outside the symmetric range (41_arithmetic.md R223). -/
def divideSigned {m n : Nat} (dividend : BitVec m) (divisor : BitVec n) : Option (BitVec n × BitVec n) :=
  let q := dividend.toInt.tdiv divisor.toInt
  if divisor = 0 ∨ (2 : Int) ^ (n - 1) - 1 < q ∨ q < -((2 : Int) ^ (n - 1) - 1) then none
  else some (BitVec.ofInt n q, BitVec.ofInt n (dividend.toInt.tmod divisor.toInt))

/-- The end of a byte division: AL the quotient and AH the remainder, or the divide error, the flags free either way
(41_arithmetic.md R222, 60_exceptions.md R438). -/
def finishByteDivide (r : Option (Byte × Byte)) (c : Cpu) : Prog :=
  match r with
  | some (q, rem) => .retire { c.divided with ax := joinBytes rem q }
  | none => divideError c

/-- The end of a word division: AX the quotient and DX the remainder, or the divide error, the flags free either way
(41_arithmetic.md R222, 60_exceptions.md R438). -/
def finishWordDivide (r : Option (Word × Word)) (c : Cpu) : Prog :=
  match r with
  | some (q, rem) => .retire { c.divided with ax := q, dx := rem }
  | none => divideError c

/-! ## Decimal and ASCII adjust (41_arithmetic.md R210 to R215) -/

/-- The low digit of AL is above 9, or AF is set: AAA, AAS, DAA and DAS adjust it. -/
def Cpu.adjustsLow (c : Cpu) : Bool := decide (9 < (c.r8 .al).toNat % 16) || c.flags.af

/-- The flags AAA and AAS leave (41_arithmetic.md R210). -/
def Cpu.asciiFlags (c : Cpu) : Flags :=
  { c.flags with
    af := c.adjustsLow, cf := c.adjustsLow, ovf := c.freeBit 0, sf := c.freeBit 1, zf := c.freeBit 2, pf := c.freeBit 3 }

/-- AAA (41_arithmetic.md R210). -/
def Cpu.aaa (c : Cpu) : Cpu :=
  let al := c.r8 .al
  let ah := c.r8 .ah
  { c with
    ax := if c.adjustsLow then joinBytes (ah + 1) ((al + 6) &&& 0x0F) else joinBytes ah (al &&& 0x0F)
    flags := c.asciiFlags }.drew

/-- AAS (41_arithmetic.md R211). -/
def Cpu.aas (c : Cpu) : Cpu :=
  let al := c.r8 .al
  let ah := c.r8 .ah
  { c with
    ax := if c.adjustsLow then joinBytes (ah - 1) ((al - 6) &&& 0x0F) else joinBytes ah (al &&& 0x0F)
    flags := c.asciiFlags }.drew

/-- The flags AAM and AAD leave, from the new AL (41_arithmetic.md R212, R213). -/
def Cpu.asciiResultFlags (c : Cpu) (al : Byte) : Flags :=
  { c.flags.setSzp al with cf := c.freeBit 0, ovf := c.freeBit 1, af := c.freeBit 2 }

/-- AAM with a divisor that is not 0 (41_arithmetic.md R212). -/
def Cpu.aam (c : Cpu) (d : Byte) : Cpu :=
  let al := c.r8 .al
  { c with ax := joinBytes (al / d) (al % d), flags := c.asciiResultFlags (al % d) }.drew

/-- AAD (41_arithmetic.md R213). -/
def Cpu.aad (c : Cpu) (d : Byte) : Cpu :=
  let al := c.r8 .ah * d + c.r8 .al
  { c with ax := joinBytes 0 al, flags := c.asciiResultFlags al }.drew

/-- The input class on which the published descriptions of DAA and DAS disagree: AL and CF come out free
(41_arithmetic.md R214, R215). -/
def Cpu.decimalDisputed (c : Cpu) : Bool :=
  c.flags.af && !c.flags.cf && decide (0x9A ≤ (c.r8 .al).toNat ∧ (c.r8 .al).toNat ≤ 0x9F)

/-- The high digit is adjusted (41_arithmetic.md R214, R215). -/
def Cpu.adjustsHigh (c : Cpu) : Bool := decide (0x99 < (c.r8 .al).toNat) || c.flags.cf

/-- The end of DAA and DAS, from the adjusted AL (41_arithmetic.md R214, R215). -/
def Cpu.decimal (c : Cpu) (adjusted : Byte) : Cpu :=
  let al := if c.decimalDisputed then c.freeByte else adjusted
  { c.set8 .al al with
    flags := { c.flags.setSzp al with
      af := c.adjustsLow, cf := if c.decimalDisputed then c.freeBit 0 else c.adjustsHigh, ovf := c.freeBit 1 } }.drew

/-- DAA (41_arithmetic.md R214). -/
def Cpu.daa (c : Cpu) : Cpu :=
  c.decimal (c.r8 .al + (if c.adjustsLow then 6 else 0) + (if c.adjustsHigh then 0x60 else 0))

/-- DAS (41_arithmetic.md R215). -/
def Cpu.das (c : Cpu) : Cpu :=
  c.decimal (c.r8 .al - (if c.adjustsLow then 6 else 0) - (if c.adjustsHigh then 0x60 else 0))

end Sys2Proof.Machine
end

