-- ==== Sys2Proof/Machine/Arithmetic.lean ====
section
/-!
DEFINITION. The arithmetic instructions (41_arithmetic.md).
Each instruction has its program (`prog…`), which Level T runs access by access, and its Level A step (`exec…`).
-/
namespace Sys2Proof.Machine

/-- ADD (41_arithmetic.md R200, 41_arithmetic.md R231). -/
def progAddEbGb (rm : RM8) (reg : Reg8) (c : Cpu) : Prog := aluRmReg byteWidth .add rm reg c

/-- `ADD_Eb_Gb` as a Level A step. -/
def execAddEbGb (rm : RM8) (reg : Reg8) (s : State) : Host.Outcome State Fault Refusal := commit (progAddEbGb rm reg) s

/-- ADD (41_arithmetic.md R200, 41_arithmetic.md R231). -/
def progAddEvGv (rm : RM16) (reg : Reg16) (c : Cpu) : Prog := aluRmReg wordWidth .add rm reg c

/-- `ADD_Ev_Gv` as a Level A step. -/
def execAddEvGv (rm : RM16) (reg : Reg16) (s : State) : Host.Outcome State Fault Refusal := commit (progAddEvGv rm reg) s

/-- ADD (41_arithmetic.md R200, 41_arithmetic.md R231). -/
def progAddGbEb (reg : Reg8) (rm : RM8) (c : Cpu) : Prog := aluRegRm byteWidth .add reg rm c

/-- `ADD_Gb_Eb` as a Level A step. -/
def execAddGbEb (reg : Reg8) (rm : RM8) (s : State) : Host.Outcome State Fault Refusal := commit (progAddGbEb reg rm) s

/-- ADD (41_arithmetic.md R200, 41_arithmetic.md R231). -/
def progAddGvEv (reg : Reg16) (rm : RM16) (c : Cpu) : Prog := aluRegRm wordWidth .add reg rm c

/-- `ADD_Gv_Ev` as a Level A step. -/
def execAddGvEv (reg : Reg16) (rm : RM16) (s : State) : Host.Outcome State Fault Refusal := commit (progAddGvEv reg rm) s

/-- ADD (41_arithmetic.md R200, 41_arithmetic.md R231). -/
def progAddALIb (imm : Byte) (c : Cpu) : Prog := aluAcc byteWidth .add imm c

/-- `ADD_AL_Ib` as a Level A step. -/
def execAddALIb (imm : Byte) (s : State) : Host.Outcome State Fault Refusal := commit (progAddALIb imm) s

/-- ADD (41_arithmetic.md R200, 41_arithmetic.md R231). -/
def progAddAXIv (imm : Word) (c : Cpu) : Prog := aluAcc wordWidth .add imm c

/-- `ADD_AX_Iv` as a Level A step. -/
def execAddAXIv (imm : Word) (s : State) : Host.Outcome State Fault Refusal := commit (progAddAXIv imm) s

/-- ADC (41_arithmetic.md R201, 41_arithmetic.md R231). -/
def progAdcEbGb (rm : RM8) (reg : Reg8) (c : Cpu) : Prog := aluRmReg byteWidth .adc rm reg c

/-- `ADC_Eb_Gb` as a Level A step. -/
def execAdcEbGb (rm : RM8) (reg : Reg8) (s : State) : Host.Outcome State Fault Refusal := commit (progAdcEbGb rm reg) s

/-- ADC (41_arithmetic.md R201, 41_arithmetic.md R231). -/
def progAdcEvGv (rm : RM16) (reg : Reg16) (c : Cpu) : Prog := aluRmReg wordWidth .adc rm reg c

/-- `ADC_Ev_Gv` as a Level A step. -/
def execAdcEvGv (rm : RM16) (reg : Reg16) (s : State) : Host.Outcome State Fault Refusal := commit (progAdcEvGv rm reg) s

/-- ADC (41_arithmetic.md R201, 41_arithmetic.md R231). -/
def progAdcGbEb (reg : Reg8) (rm : RM8) (c : Cpu) : Prog := aluRegRm byteWidth .adc reg rm c

/-- `ADC_Gb_Eb` as a Level A step. -/
def execAdcGbEb (reg : Reg8) (rm : RM8) (s : State) : Host.Outcome State Fault Refusal := commit (progAdcGbEb reg rm) s

/-- ADC (41_arithmetic.md R201, 41_arithmetic.md R231). -/
def progAdcGvEv (reg : Reg16) (rm : RM16) (c : Cpu) : Prog := aluRegRm wordWidth .adc reg rm c

/-- `ADC_Gv_Ev` as a Level A step. -/
def execAdcGvEv (reg : Reg16) (rm : RM16) (s : State) : Host.Outcome State Fault Refusal := commit (progAdcGvEv reg rm) s

/-- ADC (41_arithmetic.md R201, 41_arithmetic.md R231). -/
def progAdcALIb (imm : Byte) (c : Cpu) : Prog := aluAcc byteWidth .adc imm c

/-- `ADC_AL_Ib` as a Level A step. -/
def execAdcALIb (imm : Byte) (s : State) : Host.Outcome State Fault Refusal := commit (progAdcALIb imm) s

/-- ADC (41_arithmetic.md R201, 41_arithmetic.md R231). -/
def progAdcAXIv (imm : Word) (c : Cpu) : Prog := aluAcc wordWidth .adc imm c

/-- `ADC_AX_Iv` as a Level A step. -/
def execAdcAXIv (imm : Word) (s : State) : Host.Outcome State Fault Refusal := commit (progAdcAXIv imm) s

/-- SBB (41_arithmetic.md R203, 41_arithmetic.md R231). -/
def progSbbEbGb (rm : RM8) (reg : Reg8) (c : Cpu) : Prog := aluRmReg byteWidth .sbb rm reg c

/-- `SBB_Eb_Gb` as a Level A step. -/
def execSbbEbGb (rm : RM8) (reg : Reg8) (s : State) : Host.Outcome State Fault Refusal := commit (progSbbEbGb rm reg) s

/-- SBB (41_arithmetic.md R203, 41_arithmetic.md R231). -/
def progSbbEvGv (rm : RM16) (reg : Reg16) (c : Cpu) : Prog := aluRmReg wordWidth .sbb rm reg c

/-- `SBB_Ev_Gv` as a Level A step. -/
def execSbbEvGv (rm : RM16) (reg : Reg16) (s : State) : Host.Outcome State Fault Refusal := commit (progSbbEvGv rm reg) s

/-- SBB (41_arithmetic.md R203, 41_arithmetic.md R231). -/
def progSbbGbEb (reg : Reg8) (rm : RM8) (c : Cpu) : Prog := aluRegRm byteWidth .sbb reg rm c

/-- `SBB_Gb_Eb` as a Level A step. -/
def execSbbGbEb (reg : Reg8) (rm : RM8) (s : State) : Host.Outcome State Fault Refusal := commit (progSbbGbEb reg rm) s

/-- SBB (41_arithmetic.md R203, 41_arithmetic.md R231). -/
def progSbbGvEv (reg : Reg16) (rm : RM16) (c : Cpu) : Prog := aluRegRm wordWidth .sbb reg rm c

/-- `SBB_Gv_Ev` as a Level A step. -/
def execSbbGvEv (reg : Reg16) (rm : RM16) (s : State) : Host.Outcome State Fault Refusal := commit (progSbbGvEv reg rm) s

/-- SBB (41_arithmetic.md R203, 41_arithmetic.md R231). -/
def progSbbALIb (imm : Byte) (c : Cpu) : Prog := aluAcc byteWidth .sbb imm c

/-- `SBB_AL_Ib` as a Level A step. -/
def execSbbALIb (imm : Byte) (s : State) : Host.Outcome State Fault Refusal := commit (progSbbALIb imm) s

/-- SBB (41_arithmetic.md R203, 41_arithmetic.md R231). -/
def progSbbAXIv (imm : Word) (c : Cpu) : Prog := aluAcc wordWidth .sbb imm c

/-- `SBB_AX_Iv` as a Level A step. -/
def execSbbAXIv (imm : Word) (s : State) : Host.Outcome State Fault Refusal := commit (progSbbAXIv imm) s

/-- SUB (41_arithmetic.md R202, 41_arithmetic.md R231). -/
def progSubEbGb (rm : RM8) (reg : Reg8) (c : Cpu) : Prog := aluRmReg byteWidth .sub rm reg c

/-- `SUB_Eb_Gb` as a Level A step. -/
def execSubEbGb (rm : RM8) (reg : Reg8) (s : State) : Host.Outcome State Fault Refusal := commit (progSubEbGb rm reg) s

/-- SUB (41_arithmetic.md R202, 41_arithmetic.md R231). -/
def progSubEvGv (rm : RM16) (reg : Reg16) (c : Cpu) : Prog := aluRmReg wordWidth .sub rm reg c

/-- `SUB_Ev_Gv` as a Level A step. -/
def execSubEvGv (rm : RM16) (reg : Reg16) (s : State) : Host.Outcome State Fault Refusal := commit (progSubEvGv rm reg) s

/-- SUB (41_arithmetic.md R202, 41_arithmetic.md R231). -/
def progSubGbEb (reg : Reg8) (rm : RM8) (c : Cpu) : Prog := aluRegRm byteWidth .sub reg rm c

/-- `SUB_Gb_Eb` as a Level A step. -/
def execSubGbEb (reg : Reg8) (rm : RM8) (s : State) : Host.Outcome State Fault Refusal := commit (progSubGbEb reg rm) s

/-- SUB (41_arithmetic.md R202, 41_arithmetic.md R231). -/
def progSubGvEv (reg : Reg16) (rm : RM16) (c : Cpu) : Prog := aluRegRm wordWidth .sub reg rm c

/-- `SUB_Gv_Ev` as a Level A step. -/
def execSubGvEv (reg : Reg16) (rm : RM16) (s : State) : Host.Outcome State Fault Refusal := commit (progSubGvEv reg rm) s

/-- SUB (41_arithmetic.md R202, 41_arithmetic.md R231). -/
def progSubALIb (imm : Byte) (c : Cpu) : Prog := aluAcc byteWidth .sub imm c

/-- `SUB_AL_Ib` as a Level A step. -/
def execSubALIb (imm : Byte) (s : State) : Host.Outcome State Fault Refusal := commit (progSubALIb imm) s

/-- SUB (41_arithmetic.md R202, 41_arithmetic.md R231). -/
def progSubAXIv (imm : Word) (c : Cpu) : Prog := aluAcc wordWidth .sub imm c

/-- `SUB_AX_Iv` as a Level A step. -/
def execSubAXIv (imm : Word) (s : State) : Host.Outcome State Fault Refusal := commit (progSubAXIv imm) s

/-- CMP (41_arithmetic.md R204, 41_arithmetic.md R231). -/
def progCmpEbGb (rm : RM8) (reg : Reg8) (c : Cpu) : Prog := aluRmReg byteWidth .cmp rm reg c

/-- `CMP_Eb_Gb` as a Level A step. -/
def execCmpEbGb (rm : RM8) (reg : Reg8) (s : State) : Host.Outcome State Fault Refusal := commit (progCmpEbGb rm reg) s

/-- CMP (41_arithmetic.md R204, 41_arithmetic.md R231). -/
def progCmpEvGv (rm : RM16) (reg : Reg16) (c : Cpu) : Prog := aluRmReg wordWidth .cmp rm reg c

/-- `CMP_Ev_Gv` as a Level A step. -/
def execCmpEvGv (rm : RM16) (reg : Reg16) (s : State) : Host.Outcome State Fault Refusal := commit (progCmpEvGv rm reg) s

/-- CMP (41_arithmetic.md R204, 41_arithmetic.md R231). -/
def progCmpGbEb (reg : Reg8) (rm : RM8) (c : Cpu) : Prog := aluRegRm byteWidth .cmp reg rm c

/-- `CMP_Gb_Eb` as a Level A step. -/
def execCmpGbEb (reg : Reg8) (rm : RM8) (s : State) : Host.Outcome State Fault Refusal := commit (progCmpGbEb reg rm) s

/-- CMP (41_arithmetic.md R204, 41_arithmetic.md R231). -/
def progCmpGvEv (reg : Reg16) (rm : RM16) (c : Cpu) : Prog := aluRegRm wordWidth .cmp reg rm c

/-- `CMP_Gv_Ev` as a Level A step. -/
def execCmpGvEv (reg : Reg16) (rm : RM16) (s : State) : Host.Outcome State Fault Refusal := commit (progCmpGvEv reg rm) s

/-- CMP (41_arithmetic.md R204, 41_arithmetic.md R231). -/
def progCmpALIb (imm : Byte) (c : Cpu) : Prog := aluAcc byteWidth .cmp imm c

/-- `CMP_AL_Ib` as a Level A step. -/
def execCmpALIb (imm : Byte) (s : State) : Host.Outcome State Fault Refusal := commit (progCmpALIb imm) s

/-- CMP (41_arithmetic.md R204, 41_arithmetic.md R231). -/
def progCmpAXIv (imm : Word) (c : Cpu) : Prog := aluAcc wordWidth .cmp imm c

/-- `CMP_AX_Iv` as a Level A step. -/
def execCmpAXIv (imm : Word) (s : State) : Host.Outcome State Fault Refusal := commit (progCmpAXIv imm) s

/-- INC reg16 (41_arithmetic.md R205). -/
def progIncReg16 (r : Reg16) (c : Cpu) : Prog := incRm wordWidth (.reg r) c

/-- `INC_reg16` as a Level A step. -/
def execIncReg16 (r : Reg16) (s : State) : Host.Outcome State Fault Refusal := commit (progIncReg16 r) s

/-- DEC reg16 (41_arithmetic.md R206). -/
def progDecReg16 (r : Reg16) (c : Cpu) : Prog := decRm wordWidth (.reg r) c

/-- `DEC_reg16` as a Level A step. -/
def execDecReg16 (r : Reg16) (s : State) : Host.Outcome State Fault Refusal := commit (progDecReg16 r) s

/-- ADD (41_arithmetic.md R200, 41_arithmetic.md R231). -/
def progAddEbIb (rm : RM8) (imm : Byte) (c : Cpu) : Prog := aluRmImm byteWidth .add rm imm c

/-- `ADD_Eb_Ib` as a Level A step. -/
def execAddEbIb (rm : RM8) (imm : Byte) (s : State) : Host.Outcome State Fault Refusal := commit (progAddEbIb rm imm) s

/-- ADC (41_arithmetic.md R201, 41_arithmetic.md R231). -/
def progAdcEbIb (rm : RM8) (imm : Byte) (c : Cpu) : Prog := aluRmImm byteWidth .adc rm imm c

/-- `ADC_Eb_Ib` as a Level A step. -/
def execAdcEbIb (rm : RM8) (imm : Byte) (s : State) : Host.Outcome State Fault Refusal := commit (progAdcEbIb rm imm) s

/-- SBB (41_arithmetic.md R203, 41_arithmetic.md R231). -/
def progSbbEbIb (rm : RM8) (imm : Byte) (c : Cpu) : Prog := aluRmImm byteWidth .sbb rm imm c

/-- `SBB_Eb_Ib` as a Level A step. -/
def execSbbEbIb (rm : RM8) (imm : Byte) (s : State) : Host.Outcome State Fault Refusal := commit (progSbbEbIb rm imm) s

/-- SUB (41_arithmetic.md R202, 41_arithmetic.md R231). -/
def progSubEbIb (rm : RM8) (imm : Byte) (c : Cpu) : Prog := aluRmImm byteWidth .sub rm imm c

/-- `SUB_Eb_Ib` as a Level A step. -/
def execSubEbIb (rm : RM8) (imm : Byte) (s : State) : Host.Outcome State Fault Refusal := commit (progSubEbIb rm imm) s

/-- CMP (41_arithmetic.md R204, 41_arithmetic.md R231). -/
def progCmpEbIb (rm : RM8) (imm : Byte) (c : Cpu) : Prog := aluRmImm byteWidth .cmp rm imm c

/-- `CMP_Eb_Ib` as a Level A step. -/
def execCmpEbIb (rm : RM8) (imm : Byte) (s : State) : Host.Outcome State Fault Refusal := commit (progCmpEbIb rm imm) s

/-- ADD (41_arithmetic.md R200, 41_arithmetic.md R231). -/
def progAddEvIv (rm : RM16) (imm : Word) (c : Cpu) : Prog := aluRmImm wordWidth .add rm imm c

/-- `ADD_Ev_Iv` as a Level A step. -/
def execAddEvIv (rm : RM16) (imm : Word) (s : State) : Host.Outcome State Fault Refusal := commit (progAddEvIv rm imm) s

/-- ADC (41_arithmetic.md R201, 41_arithmetic.md R231). -/
def progAdcEvIv (rm : RM16) (imm : Word) (c : Cpu) : Prog := aluRmImm wordWidth .adc rm imm c

/-- `ADC_Ev_Iv` as a Level A step. -/
def execAdcEvIv (rm : RM16) (imm : Word) (s : State) : Host.Outcome State Fault Refusal := commit (progAdcEvIv rm imm) s

/-- SBB (41_arithmetic.md R203, 41_arithmetic.md R231). -/
def progSbbEvIv (rm : RM16) (imm : Word) (c : Cpu) : Prog := aluRmImm wordWidth .sbb rm imm c

/-- `SBB_Ev_Iv` as a Level A step. -/
def execSbbEvIv (rm : RM16) (imm : Word) (s : State) : Host.Outcome State Fault Refusal := commit (progSbbEvIv rm imm) s

/-- SUB (41_arithmetic.md R202, 41_arithmetic.md R231). -/
def progSubEvIv (rm : RM16) (imm : Word) (c : Cpu) : Prog := aluRmImm wordWidth .sub rm imm c

/-- `SUB_Ev_Iv` as a Level A step. -/
def execSubEvIv (rm : RM16) (imm : Word) (s : State) : Host.Outcome State Fault Refusal := commit (progSubEvIv rm imm) s

/-- CMP (41_arithmetic.md R204, 41_arithmetic.md R231). -/
def progCmpEvIv (rm : RM16) (imm : Word) (c : Cpu) : Prog := aluRmImm wordWidth .cmp rm imm c

/-- `CMP_Ev_Iv` as a Level A step. -/
def execCmpEvIv (rm : RM16) (imm : Word) (s : State) : Host.Outcome State Fault Refusal := commit (progCmpEvIv rm imm) s

/-- ADD (41_arithmetic.md R200, 41_arithmetic.md R231; 82, as 80 (30_encoding.md R150)). -/
def progAddEbIb82 (rm : RM8) (imm : Byte) (c : Cpu) : Prog := aluRmImm byteWidth .add rm imm c

/-- `ADD_Eb_Ib__undocumented_alias_of_80` as a Level A step. -/
def execAddEbIb82 (rm : RM8) (imm : Byte) (s : State) : Host.Outcome State Fault Refusal := commit (progAddEbIb82 rm imm) s

/-- ADC (41_arithmetic.md R201, 41_arithmetic.md R231; 82, as 80 (30_encoding.md R150)). -/
def progAdcEbIb82 (rm : RM8) (imm : Byte) (c : Cpu) : Prog := aluRmImm byteWidth .adc rm imm c

/-- `ADC_Eb_Ib__undocumented_alias_of_80` as a Level A step. -/
def execAdcEbIb82 (rm : RM8) (imm : Byte) (s : State) : Host.Outcome State Fault Refusal := commit (progAdcEbIb82 rm imm) s

/-- SBB (41_arithmetic.md R203, 41_arithmetic.md R231; 82, as 80 (30_encoding.md R150)). -/
def progSbbEbIb82 (rm : RM8) (imm : Byte) (c : Cpu) : Prog := aluRmImm byteWidth .sbb rm imm c

/-- `SBB_Eb_Ib__undocumented_alias_of_80` as a Level A step. -/
def execSbbEbIb82 (rm : RM8) (imm : Byte) (s : State) : Host.Outcome State Fault Refusal := commit (progSbbEbIb82 rm imm) s

/-- SUB (41_arithmetic.md R202, 41_arithmetic.md R231; 82, as 80 (30_encoding.md R150)). -/
def progSubEbIb82 (rm : RM8) (imm : Byte) (c : Cpu) : Prog := aluRmImm byteWidth .sub rm imm c

/-- `SUB_Eb_Ib__undocumented_alias_of_80` as a Level A step. -/
def execSubEbIb82 (rm : RM8) (imm : Byte) (s : State) : Host.Outcome State Fault Refusal := commit (progSubEbIb82 rm imm) s

/-- CMP (41_arithmetic.md R204, 41_arithmetic.md R231; 82, as 80 (30_encoding.md R150)). -/
def progCmpEbIb82 (rm : RM8) (imm : Byte) (c : Cpu) : Prog := aluRmImm byteWidth .cmp rm imm c

/-- `CMP_Eb_Ib__undocumented_alias_of_80` as a Level A step. -/
def execCmpEbIb82 (rm : RM8) (imm : Byte) (s : State) : Host.Outcome State Fault Refusal := commit (progCmpEbIb82 rm imm) s

/-- ADD (41_arithmetic.md R200, 41_arithmetic.md R231; 83 /n, a byte sign-extended to a word). -/
def progAddEvIbs (rm : RM16) (imm : Byte) (c : Cpu) : Prog := aluRmImm wordWidth .add rm (sext imm) c

/-- `ADD_Ev_Ib_sign-extended` as a Level A step. -/
def execAddEvIbs (rm : RM16) (imm : Byte) (s : State) : Host.Outcome State Fault Refusal := commit (progAddEvIbs rm imm) s

/-- ADC (41_arithmetic.md R201, 41_arithmetic.md R231; 83 /n, a byte sign-extended to a word). -/
def progAdcEvIbs (rm : RM16) (imm : Byte) (c : Cpu) : Prog := aluRmImm wordWidth .adc rm (sext imm) c

/-- `ADC_Ev_Ib_sign-extended` as a Level A step. -/
def execAdcEvIbs (rm : RM16) (imm : Byte) (s : State) : Host.Outcome State Fault Refusal := commit (progAdcEvIbs rm imm) s

/-- SBB (41_arithmetic.md R203, 41_arithmetic.md R231; 83 /n, a byte sign-extended to a word). -/
def progSbbEvIbs (rm : RM16) (imm : Byte) (c : Cpu) : Prog := aluRmImm wordWidth .sbb rm (sext imm) c

/-- `SBB_Ev_Ib_sign-extended` as a Level A step. -/
def execSbbEvIbs (rm : RM16) (imm : Byte) (s : State) : Host.Outcome State Fault Refusal := commit (progSbbEvIbs rm imm) s

/-- SUB (41_arithmetic.md R202, 41_arithmetic.md R231; 83 /n, a byte sign-extended to a word). -/
def progSubEvIbs (rm : RM16) (imm : Byte) (c : Cpu) : Prog := aluRmImm wordWidth .sub rm (sext imm) c

/-- `SUB_Ev_Ib_sign-extended` as a Level A step. -/
def execSubEvIbs (rm : RM16) (imm : Byte) (s : State) : Host.Outcome State Fault Refusal := commit (progSubEvIbs rm imm) s

/-- CMP (41_arithmetic.md R204, 41_arithmetic.md R231; 83 /n, a byte sign-extended to a word). -/
def progCmpEvIbs (rm : RM16) (imm : Byte) (c : Cpu) : Prog := aluRmImm wordWidth .cmp rm (sext imm) c

/-- `CMP_Ev_Ib_sign-extended` as a Level A step. -/
def execCmpEvIbs (rm : RM16) (imm : Byte) (s : State) : Host.Outcome State Fault Refusal := commit (progCmpEvIbs rm imm) s

/-- AAM: a divisor of 0 is a divide error (41_arithmetic.md R212, 60_exceptions.md R437, R438). -/
def progAam (imm : Byte) (c : Cpu) : Prog := if imm = 0 then divideError c else .retire (c.aam imm)

/-- `AAM_Ib` as a Level A step. -/
def execAam (imm : Byte) (s : State) : Host.Outcome State Fault Refusal := commit (progAam imm) s

/-- AAD (41_arithmetic.md R213). -/
def progAad (imm : Byte) (c : Cpu) : Prog := .retire (c.aad imm)

/-- `AAD_Ib` as a Level A step. -/
def execAad (imm : Byte) (s : State) : Host.Outcome State Fault Refusal := commit (progAad imm) s

/-- NEG (41_arithmetic.md R207). -/
def progNegEb (rm : RM8) (c : Cpu) : Prog := negRm byteWidth rm c

/-- `NEG_Eb` as a Level A step. -/
def execNegEb (rm : RM8) (s : State) : Host.Outcome State Fault Refusal := commit (progNegEb rm) s

/-- MUL by a byte (41_arithmetic.md R220). -/
def progMulEb (rm : RM8) (c : Cpu) : Prog := byteWidth.load c (c.place rm) fun b => .retire (c.mulByte b)

/-- `MUL_Eb` as a Level A step. -/
def execMulEb (rm : RM8) (s : State) : Host.Outcome State Fault Refusal := commit (progMulEb rm) s

/-- IMUL by a byte (41_arithmetic.md R221). -/
def progImulEb (rm : RM8) (c : Cpu) : Prog := byteWidth.load c (c.place rm) fun b => .retire (c.imulByte b)

/-- `IMUL_Eb` as a Level A step. -/
def execImulEb (rm : RM8) (s : State) : Host.Outcome State Fault Refusal := commit (progImulEb rm) s

/-- DIV by a byte (41_arithmetic.md R222). -/
def progDivEb (rm : RM8) (c : Cpu) : Prog := byteWidth.load c (c.place rm) fun b => finishByteDivide (divide c.ax b) c

/-- `DIV_Eb` as a Level A step. -/
def execDivEb (rm : RM8) (s : State) : Host.Outcome State Fault Refusal := commit (progDivEb rm) s

/-- IDIV by a byte (41_arithmetic.md R223). -/
def progIdivEb (rm : RM8) (c : Cpu) : Prog := byteWidth.load c (c.place rm) fun b => finishByteDivide (divideSigned c.ax b) c

/-- `IDIV_Eb` as a Level A step. -/
def execIdivEb (rm : RM8) (s : State) : Host.Outcome State Fault Refusal := commit (progIdivEb rm) s

/-- NEG (41_arithmetic.md R207). -/
def progNegEv (rm : RM16) (c : Cpu) : Prog := negRm wordWidth rm c

/-- `NEG_Ev` as a Level A step. -/
def execNegEv (rm : RM16) (s : State) : Host.Outcome State Fault Refusal := commit (progNegEv rm) s

/-- MUL by a word (41_arithmetic.md R220). -/
def progMulEv (rm : RM16) (c : Cpu) : Prog := wordWidth.load c (c.place rm) fun b => .retire (c.mulWord b)

/-- `MUL_Ev` as a Level A step. -/
def execMulEv (rm : RM16) (s : State) : Host.Outcome State Fault Refusal := commit (progMulEv rm) s

/-- IMUL by a word (41_arithmetic.md R221). -/
def progImulEv (rm : RM16) (c : Cpu) : Prog := wordWidth.load c (c.place rm) fun b => .retire (c.imulWord b)

/-- `IMUL_Ev` as a Level A step. -/
def execImulEv (rm : RM16) (s : State) : Host.Outcome State Fault Refusal := commit (progImulEv rm) s

/-- DIV by a word (41_arithmetic.md R222). -/
def progDivEv (rm : RM16) (c : Cpu) : Prog := wordWidth.load c (c.place rm) fun b => finishWordDivide (divide c.dxax b) c

/-- `DIV_Ev` as a Level A step. -/
def execDivEv (rm : RM16) (s : State) : Host.Outcome State Fault Refusal := commit (progDivEv rm) s

/-- IDIV by a word (41_arithmetic.md R223). -/
def progIdivEv (rm : RM16) (c : Cpu) : Prog :=
  wordWidth.load c (c.place rm) fun b => finishWordDivide (divideSigned c.dxax b) c

/-- `IDIV_Ev` as a Level A step. -/
def execIdivEv (rm : RM16) (s : State) : Host.Outcome State Fault Refusal := commit (progIdivEv rm) s

/-- INC (41_arithmetic.md R205). -/
def progIncEb (rm : RM8) (c : Cpu) : Prog := incRm byteWidth rm c

/-- `INC_Eb` as a Level A step. -/
def execIncEb (rm : RM8) (s : State) : Host.Outcome State Fault Refusal := commit (progIncEb rm) s

/-- DEC (41_arithmetic.md R206). -/
def progDecEb (rm : RM8) (c : Cpu) : Prog := decRm byteWidth rm c

/-- `DEC_Eb` as a Level A step. -/
def execDecEb (rm : RM8) (s : State) : Host.Outcome State Fault Refusal := commit (progDecEb rm) s

/-- INC (41_arithmetic.md R205). -/
def progIncEv (rm : RM16) (c : Cpu) : Prog := incRm wordWidth rm c

/-- `INC_Ev` as a Level A step. -/
def execIncEv (rm : RM16) (s : State) : Host.Outcome State Fault Refusal := commit (progIncEv rm) s

/-- DEC (41_arithmetic.md R206). -/
def progDecEv (rm : RM16) (c : Cpu) : Prog := decRm wordWidth rm c

/-- `DEC_Ev` as a Level A step. -/
def execDecEv (rm : RM16) (s : State) : Host.Outcome State Fault Refusal := commit (progDecEv rm) s

/-- DAA (41_arithmetic.md R214). -/
def progDaa (c : Cpu) : Prog := .retire c.daa

/-- `DAA` as a Level A step. -/
def execDaa (s : State) : Host.Outcome State Fault Refusal := commit progDaa s

/-- DAS (41_arithmetic.md R215). -/
def progDas (c : Cpu) : Prog := .retire c.das

/-- `DAS` as a Level A step. -/
def execDas (s : State) : Host.Outcome State Fault Refusal := commit progDas s

/-- AAA (41_arithmetic.md R210). -/
def progAaa (c : Cpu) : Prog := .retire c.aaa

/-- `AAA` as a Level A step. -/
def execAaa (s : State) : Host.Outcome State Fault Refusal := commit progAaa s

/-- AAS (41_arithmetic.md R211). -/
def progAas (c : Cpu) : Prog := .retire c.aas

/-- `AAS` as a Level A step. -/
def execAas (s : State) : Host.Outcome State Fault Refusal := commit progAas s

/-- CBW (41_arithmetic.md R218). -/
def progCbw (c : Cpu) : Prog := .retire { c with ax := sext (loByte c.ax) }

/-- `CBW` as a Level A step. -/
def execCbw (s : State) : Host.Outcome State Fault Refusal := commit progCbw s

/-- CWD (41_arithmetic.md R219). -/
def progCwd (c : Cpu) : Prog := .retire { c with dx := if c.ax.msb then 0xFFFF else 0 }

/-- `CWD` as a Level A step. -/
def execCwd (s : State) : Host.Outcome State Fault Refusal := commit progCwd s

end Sys2Proof.Machine
end

