-- ==== Sys2Proof/Machine/ControlTransfer.lean ====
section
/-!
DEFINITION. The control transfer instructions (44_control_transfer.md).
Each instruction has its program (`prog…`), which Level T runs access by access, and its Level A step (`exec…`).
-/
namespace Sys2Proof.Machine

/-- `cond(c)` (44_control_transfer.md R300). -/
def condHolds (f : Flags) : Cond → Bool
  | .o => f.ovf | .no => !f.ovf | .b => f.cf | .nb => !f.cf | .z => f.zf | .nz => !f.zf
  | .be => f.cf || f.zf | .a => !f.cf && !f.zf | .s => f.sf | .ns => !f.sf | .p => f.pf | .np => !f.pf
  | .l => f.sf != f.ovf | .ge => f.sf == f.ovf | .le => f.zf || (f.sf != f.ovf) | .g => !f.zf && (f.sf == f.ovf)

/-- A short conditional transfer; one that is not taken does not flush (44_control_transfer.md R289, R300). -/
def jumpIf (taken : Bool) (disp : Byte) (c : Cpu) : Prog := if taken then jumpTo (c.ip + sext disp) c else .retire c

/-- LOOP and its kin: CX is decremented; the jump is taken if it is not 0 and the condition holds
(44_control_transfer.md R315 to R317). -/
def countDown (go : Bool) (disp : Byte) (c : Cpu) : Prog :=
  jumpIf (decide (c.cx - 1 ≠ 0) && go) disp { c with cx := c.cx - 1 }

/-- A far call: CS, then the return offset (44_control_transfer.md R304, R306). -/
def callFar (seg off : Word) (c : Cpu) : Prog := push16 c.cs c fun d => push16 c.ip d fun e => jumpFar seg off e

/-- A near return that releases some bytes (44_control_transfer.md R307, R308). -/
def returnNear (release : Word) (c : Cpu) : Prog := pop16 c fun ip d => jumpTo ip { d with sp := d.sp + release }

/-- A far return that releases some bytes (44_control_transfer.md R309, R310). -/
def returnFar (release : Word) (c : Cpu) : Prog :=
  pop16 c fun ip d => pop16 d fun cs e => jumpFar cs ip { e with sp := e.sp + release }

/-- Jcc, opcodes 60 to 6F (44_control_transfer.md R300, 30_encoding.md R150). -/
def progJcc60 (cc : Cond) (disp : Byte) (c : Cpu) : Prog := jumpIf (condHolds c.flags cc) disp c

/-- `Jcc_Jb__undocumented_alias_of_70-7F` as a Level A step. -/
def execJcc60 (cc : Cond) (disp : Byte) (s : State) : Host.Outcome State Fault Refusal := commit (progJcc60 cc disp) s

/-- Jcc (44_control_transfer.md R300). -/
def progJcc (cc : Cond) (disp : Byte) (c : Cpu) : Prog := jumpIf (condHolds c.flags cc) disp c

/-- `Jcc_Jb` as a Level A step. -/
def execJcc (cc : Cond) (disp : Byte) (s : State) : Host.Outcome State Fault Refusal := commit (progJcc cc disp) s

/-- CALL far direct (44_control_transfer.md R304). -/
def progCallAp (off : Word) (seg : Word) (c : Cpu) : Prog := callFar seg off c

/-- `CALL_Ap__far_direct` as a Level A step. -/
def execCallAp (off : Word) (seg : Word) (s : State) : Host.Outcome State Fault Refusal := commit (progCallAp off seg) s

/-- RET Iw, opcode C0 (44_control_transfer.md R308, 30_encoding.md R150). -/
def progRetIwC0 (imm : Word) (c : Cpu) : Prog := returnNear imm c

/-- `RET_Iw__undocumented_alias_of_C2` as a Level A step. -/
def execRetIwC0 (imm : Word) (s : State) : Host.Outcome State Fault Refusal := commit (progRetIwC0 imm) s

/-- RET Iw (44_control_transfer.md R308). -/
def progRetIw (imm : Word) (c : Cpu) : Prog := returnNear imm c

/-- `RET_Iw__near` as a Level A step. -/
def execRetIw (imm : Word) (s : State) : Host.Outcome State Fault Refusal := commit (progRetIw imm) s

/-- RETF Iw, opcode C8 (44_control_transfer.md R310, 30_encoding.md R150). -/
def progRetfIwC8 (imm : Word) (c : Cpu) : Prog := returnFar imm c

/-- `RETF_Iw__undocumented_alias_of_CA` as a Level A step. -/
def execRetfIwC8 (imm : Word) (s : State) : Host.Outcome State Fault Refusal := commit (progRetfIwC8 imm) s

/-- RETF Iw (44_control_transfer.md R310). -/
def progRetfIw (imm : Word) (c : Cpu) : Prog := returnFar imm c

/-- `RETF_Iw__far` as a Level A step. -/
def execRetfIw (imm : Word) (s : State) : Host.Outcome State Fault Refusal := commit (progRetfIw imm) s

/-- INT Ib (44_control_transfer.md R311). -/
def progIntIb (imm : Byte) (c : Cpu) : Prog := enter imm c.ip c

/-- `INT_Ib` as a Level A step. -/
def execIntIb (imm : Byte) (s : State) : Host.Outcome State Fault Refusal := commit (progIntIb imm) s

/-- LOOPNE (44_control_transfer.md R316). -/
def progLoopne (disp : Byte) (c : Cpu) : Prog := countDown (!c.flags.zf) disp c

/-- `LOOPNE_Jb` as a Level A step. -/
def execLoopne (disp : Byte) (s : State) : Host.Outcome State Fault Refusal := commit (progLoopne disp) s

/-- LOOPE (44_control_transfer.md R317). -/
def progLoope (disp : Byte) (c : Cpu) : Prog := countDown c.flags.zf disp c

/-- `LOOPE_Jb` as a Level A step. -/
def execLoope (disp : Byte) (s : State) : Host.Outcome State Fault Refusal := commit (progLoope disp) s

/-- LOOP (44_control_transfer.md R315). -/
def progLoop (disp : Byte) (c : Cpu) : Prog := countDown true disp c

/-- `LOOP_Jb` as a Level A step. -/
def execLoop (disp : Byte) (s : State) : Host.Outcome State Fault Refusal := commit (progLoop disp) s

/-- JCXZ (44_control_transfer.md R318). -/
def progJcxz (disp : Byte) (c : Cpu) : Prog := jumpIf (decide (c.cx = 0)) disp c

/-- `JCXZ_Jb` as a Level A step. -/
def execJcxz (disp : Byte) (s : State) : Host.Outcome State Fault Refusal := commit (progJcxz disp) s

/-- CALL near relative (44_control_transfer.md R303). -/
def progCallJv (disp : Word) (c : Cpu) : Prog := push16 c.ip c fun d => jumpTo (c.ip + disp) d

/-- `CALL_Jv__near_relative` as a Level A step. -/
def execCallJv (disp : Word) (s : State) : Host.Outcome State Fault Refusal := commit (progCallJv disp) s

/-- JMP near relative (44_control_transfer.md R291). -/
def progJmpJv (disp : Word) (c : Cpu) : Prog := jumpTo (c.ip + disp) c

/-- `JMP_Jv__near_relative` as a Level A step. -/
def execJmpJv (disp : Word) (s : State) : Host.Outcome State Fault Refusal := commit (progJmpJv disp) s

/-- JMP far direct (44_control_transfer.md R293). -/
def progJmpAp (off : Word) (seg : Word) (c : Cpu) : Prog := jumpFar seg off c

/-- `JMP_Ap__far_direct` as a Level A step. -/
def execJmpAp (off : Word) (seg : Word) (s : State) : Host.Outcome State Fault Refusal := commit (progJmpAp off seg) s

/-- JMP short (44_control_transfer.md R290). -/
def progJmpJb (disp : Byte) (c : Cpu) : Prog := jumpTo (c.ip + sext disp) c

/-- `JMP_Jb__short` as a Level A step. -/
def execJmpJb (disp : Byte) (s : State) : Host.Outcome State Fault Refusal := commit (progJmpJb disp) s

/-- CALL near indirect: the target is read before the push (44_control_transfer.md R305). -/
def progCallEv (rm : RM16) (c : Cpu) : Prog := wordWidth.load c (c.place rm) fun t => push16 c.ip c fun d => jumpTo t d

/-- `CALL_Ev__near_indirect` as a Level A step. -/
def execCallEv (rm : RM16) (s : State) : Host.Outcome State Fault Refusal := commit (progCallEv rm) s

/-- CALL far indirect (44_control_transfer.md R306). -/
def progCallMp (m : Mem) (c : Cpu) : Prog := readPointer m c fun o s => callFar s o c

/-- `CALL_Mp__far_indirect` as a Level A step. -/
def execCallMp (m : Mem) (s : State) : Host.Outcome State Fault Refusal := commit (progCallMp m) s

/-- JMP near indirect (44_control_transfer.md R292). -/
def progJmpEv (rm : RM16) (c : Cpu) : Prog := wordWidth.load c (c.place rm) fun t => jumpTo t c

/-- `JMP_Ev__near_indirect` as a Level A step. -/
def execJmpEv (rm : RM16) (s : State) : Host.Outcome State Fault Refusal := commit (progJmpEv rm) s

/-- JMP far indirect (44_control_transfer.md R294). -/
def progJmpMp (m : Mem) (c : Cpu) : Prog := readPointer m c fun o s => jumpFar s o c

/-- `JMP_Mp__far_indirect` as a Level A step. -/
def execJmpMp (m : Mem) (s : State) : Host.Outcome State Fault Refusal := commit (progJmpMp m) s

/-- RET, opcode C1 (44_control_transfer.md R307, 30_encoding.md R150). -/
def progRetC1 (c : Cpu) : Prog := returnNear 0 c

/-- `RET__undocumented_alias_of_C3` as a Level A step. -/
def execRetC1 (s : State) : Host.Outcome State Fault Refusal := commit progRetC1 s

/-- RET (44_control_transfer.md R307). -/
def progRet (c : Cpu) : Prog := returnNear 0 c

/-- `RET__near` as a Level A step. -/
def execRet (s : State) : Host.Outcome State Fault Refusal := commit progRet s

/-- RETF, opcode C9 (44_control_transfer.md R309, 30_encoding.md R150). -/
def progRetfC9 (c : Cpu) : Prog := returnFar 0 c

/-- `RETF__undocumented_alias_of_CB` as a Level A step. -/
def execRetfC9 (s : State) : Host.Outcome State Fault Refusal := commit progRetfC9 s

/-- RETF (44_control_transfer.md R309). -/
def progRetf (c : Cpu) : Prog := returnFar 0 c

/-- `RETF__far` as a Level A step. -/
def execRetf (s : State) : Host.Outcome State Fault Refusal := commit progRetf s

/-- INT 3 (44_control_transfer.md R312). -/
def progInt3 (c : Cpu) : Prog := enter 3 c.ip c

/-- `INT_3` as a Level A step. -/
def execInt3 (s : State) : Host.Outcome State Fault Refusal := commit progInt3 s

/-- INTO (44_control_transfer.md R313). -/
def progInto (c : Cpu) : Prog := if c.flags.ovf then enter 4 c.ip c else .retire c

/-- `INTO` as a Level A step. -/
def execInto (s : State) : Host.Outcome State Fault Refusal := commit progInto s

/-- IRET (44_control_transfer.md R314). -/
def progIret (c : Cpu) : Prog := leave c

/-- `IRET` as a Level A step. -/
def execIret (s : State) : Host.Outcome State Fault Refusal := commit progIret s

end Sys2Proof.Machine
end

