-- ==== Sys2Proof/Machine/DataTransfer.lean ====
section
/-!
DEFINITION. The data transfer instructions (40_data_transfer.md).
Each instruction has its program (`prog…`), which Level T runs access by access, and its Level A step (`exec…`).
-/
namespace Sys2Proof.Machine

/-- `r/m <- v`: a memory destination is only written (40_data_transfer.md R170). -/
def movTo {n : Nat} {R : Type} (w : Width n R) (rm : RM R) (v : BitVec n) (c : Cpu) : Prog := w.store c (c.place rm) v .retire

/-- `reg <- r/m` (40_data_transfer.md R170). -/
def movFrom {n : Nat} {R : Type} (w : Width n R) (reg : R) (rm : RM R) (c : Cpu) : Prog :=
  w.load c (c.place rm) fun v => .retire (w.set c reg v)

/-- A load of a segment register, which inhibits every sampling at the next boundary (40_data_transfer.md R171). -/
def Cpu.loadSeg (c : Cpu) (sr : SReg) (v : Word) : Cpu := { c.setSeg sr v with inhibit := .all }

/-- `MOV sreg, r/m16` (40_data_transfer.md R171); CS is loaded without a flush. -/
def movToSeg (sr : SReg) (rm : RM16) (c : Cpu) : Prog := wordWidth.load c (c.place rm) fun v => .retire (c.loadSeg sr v)

/-- `POP sreg` (40_data_transfer.md R176); CS is loaded without a flush. -/
def popSeg (sr : SReg) (c : Cpu) : Prog := pop16 c fun v d => .retire (d.loadSeg sr v)

/-- `XCHG r/m, reg` (40_data_transfer.md R178). -/
def exchange {n : Nat} {R : Type} (w : Width n R) (rm : RM R) (reg : R) (c : Cpu) : Prog :=
  w.load c (c.place rm) fun t => w.store c (c.place rm) (w.get c reg) fun d => .retire (w.set d reg t)

/-- `acc <- PortRead(p)` (40_data_transfer.md R180). -/
def input {n : Nat} {R : Type} (w : Width n R) (p : Word) (c : Cpu) : Prog := w.input p fun v => .retire (w.set c w.acc v)

/-- `PortWrite(p, acc)` (40_data_transfer.md R181). -/
def output {n : Nat} {R : Type} (w : Width n R) (p : Word) (c : Cpu) : Prog := w.output p (w.get c w.acc) (.retire c)

/-- PUSH reg16: the register is read after SP is decremented (40_data_transfer.md R172). -/
def progPushReg16 (r : Reg16) (c : Cpu) : Prog := push16 ({ c with sp := c.sp - 2 }.r16 r) c .retire

/-- `PUSH_reg16` as a Level A step. -/
def execPushReg16 (r : Reg16) (s : State) : Host.Outcome State Fault Refusal := commit (progPushReg16 r) s

/-- POP reg16 (40_data_transfer.md R175). -/
def progPopReg16 (r : Reg16) (c : Cpu) : Prog := pop16 c fun v d => .retire (d.set16 r v)

/-- `POP_reg16` as a Level A step. -/
def execPopReg16 (r : Reg16) (s : State) : Host.Outcome State Fault Refusal := commit (progPopReg16 r) s

/-- XCHG Eb,Gb (40_data_transfer.md R178). -/
def progXchgEbGb (rm : RM8) (reg : Reg8) (c : Cpu) : Prog := exchange byteWidth rm reg c

/-- `XCHG_Eb_Gb` as a Level A step. -/
def execXchgEbGb (rm : RM8) (reg : Reg8) (s : State) : Host.Outcome State Fault Refusal := commit (progXchgEbGb rm reg) s

/-- XCHG Ev,Gv (40_data_transfer.md R178). -/
def progXchgEvGv (rm : RM16) (reg : Reg16) (c : Cpu) : Prog := exchange wordWidth rm reg c

/-- `XCHG_Ev_Gv` as a Level A step. -/
def execXchgEvGv (rm : RM16) (reg : Reg16) (s : State) : Host.Outcome State Fault Refusal := commit (progXchgEvGv rm reg) s

/-- MOV Eb,Gb (40_data_transfer.md R170). -/
def progMovEbGb (rm : RM8) (reg : Reg8) (c : Cpu) : Prog := movTo byteWidth rm (c.r8 reg) c

/-- `MOV_Eb_Gb` as a Level A step. -/
def execMovEbGb (rm : RM8) (reg : Reg8) (s : State) : Host.Outcome State Fault Refusal := commit (progMovEbGb rm reg) s

/-- MOV Ev,Gv (40_data_transfer.md R170). -/
def progMovEvGv (rm : RM16) (reg : Reg16) (c : Cpu) : Prog := movTo wordWidth rm (c.r16 reg) c

/-- `MOV_Ev_Gv` as a Level A step. -/
def execMovEvGv (rm : RM16) (reg : Reg16) (s : State) : Host.Outcome State Fault Refusal := commit (progMovEvGv rm reg) s

/-- MOV Gb,Eb (40_data_transfer.md R170). -/
def progMovGbEb (reg : Reg8) (rm : RM8) (c : Cpu) : Prog := movFrom byteWidth reg rm c

/-- `MOV_Gb_Eb` as a Level A step. -/
def execMovGbEb (reg : Reg8) (rm : RM8) (s : State) : Host.Outcome State Fault Refusal := commit (progMovGbEb reg rm) s

/-- MOV Gv,Ev (40_data_transfer.md R170). -/
def progMovGvEv (reg : Reg16) (rm : RM16) (c : Cpu) : Prog := movFrom wordWidth reg rm c

/-- `MOV_Gv_Ev` as a Level A step. -/
def execMovGvEv (reg : Reg16) (rm : RM16) (s : State) : Host.Outcome State Fault Refusal := commit (progMovGvEv reg rm) s

/-- MOV Ew,Sw (40_data_transfer.md R171). -/
def progMovEwSw (rm : RM16) (sr : SReg) (c : Cpu) : Prog := movTo wordWidth rm (c.seg sr) c

/-- `MOV_Ew_Sw` as a Level A step. -/
def execMovEwSw (rm : RM16) (sr : SReg) (s : State) : Host.Outcome State Fault Refusal := commit (progMovEwSw rm sr) s

/-- MOV Ew,Sw with bit 2 of `reg` set, which is ignored (40_data_transfer.md R171, 30_encoding.md R150). -/
def progMovEwSwHi (rm : RM16) (sr : SReg) (c : Cpu) : Prog := movTo wordWidth rm (c.seg sr) c

/-- `MOV_Ew_Sw__undocumented__reg_bit_2_ignored` as a Level A step. -/
def execMovEwSwHi (rm : RM16) (sr : SReg) (s : State) : Host.Outcome State Fault Refusal := commit (progMovEwSwHi rm sr) s

/-- LEA (40_data_transfer.md R183). -/
def progLea (reg : Reg16) (m : Mem) (c : Cpu) : Prog := .retire (c.set16 reg (c.offset m))

/-- `LEA_Gv_M` as a Level A step. -/
def execLea (reg : Reg16) (m : Mem) (s : State) : Host.Outcome State Fault Refusal := commit (progLea reg m) s

/-- MOV Sw,Ew (40_data_transfer.md R171). -/
def progMovSwEw (sr : SReg) (rm : RM16) (c : Cpu) : Prog := movToSeg sr rm c

/-- `MOV_Sw_Ew` as a Level A step. -/
def execMovSwEw (sr : SReg) (rm : RM16) (s : State) : Host.Outcome State Fault Refusal := commit (progMovSwEw sr rm) s

/-- MOV Sw,Ew with bit 2 of `reg` set, which is ignored (40_data_transfer.md R171, 30_encoding.md R150). -/
def progMovSwEwHi (sr : SReg) (rm : RM16) (c : Cpu) : Prog := movToSeg sr rm c

/-- `MOV_Sw_Ew__undocumented__reg_bit_2_ignored` as a Level A step. -/
def execMovSwEwHi (sr : SReg) (rm : RM16) (s : State) : Host.Outcome State Fault Refusal := commit (progMovSwEwHi sr rm) s

/-- POP r/m16: the address is computed first (40_data_transfer.md R177). -/
def progPopEv (rm : RM16) (c : Cpu) : Prog := pop16 c fun v d => wordWidth.store d (c.place rm) v .retire

/-- `POP_Ev` as a Level A step. -/
def execPopEv (rm : RM16) (s : State) : Host.Outcome State Fault Refusal := commit (progPopEv rm) s

/-- MOV AL,[off] (40_data_transfer.md R170). -/
def progMovALOb (off : Word) (c : Cpu) : Prog := movFrom byteWidth .al (.mem (.direct off)) c

/-- `MOV_AL__Ob` as a Level A step. -/
def execMovALOb (off : Word) (s : State) : Host.Outcome State Fault Refusal := commit (progMovALOb off) s

/-- MOV AX,[off] (40_data_transfer.md R170). -/
def progMovAXOv (off : Word) (c : Cpu) : Prog := movFrom wordWidth .ax (.mem (.direct off)) c

/-- `MOV_AX__Ov` as a Level A step. -/
def execMovAXOv (off : Word) (s : State) : Host.Outcome State Fault Refusal := commit (progMovAXOv off) s

/-- MOV [off],AL (40_data_transfer.md R170). -/
def progMovObAL (off : Word) (c : Cpu) : Prog := movTo byteWidth (.mem (.direct off)) (c.r8 .al) c

/-- `MOV__Ob__AL` as a Level A step. -/
def execMovObAL (off : Word) (s : State) : Host.Outcome State Fault Refusal := commit (progMovObAL off) s

/-- MOV [off],AX (40_data_transfer.md R170). -/
def progMovOvAX (off : Word) (c : Cpu) : Prog := movTo wordWidth (.mem (.direct off)) c.ax c

/-- `MOV__Ov__AX` as a Level A step. -/
def execMovOvAX (off : Word) (s : State) : Host.Outcome State Fault Refusal := commit (progMovOvAX off) s

/-- MOV reg8,Ib (40_data_transfer.md R170). -/
def progMovReg8Ib (r : Reg8) (imm : Byte) (c : Cpu) : Prog := .retire (c.set8 r imm)

/-- `MOV_reg8_Ib` as a Level A step. -/
def execMovReg8Ib (r : Reg8) (imm : Byte) (s : State) : Host.Outcome State Fault Refusal := commit (progMovReg8Ib r imm) s

/-- MOV reg16,Iv (40_data_transfer.md R170). -/
def progMovReg16Iv (r : Reg16) (imm : Word) (c : Cpu) : Prog := .retire (c.set16 r imm)

/-- `MOV_reg16_Iv` as a Level A step. -/
def execMovReg16Iv (r : Reg16) (imm : Word) (s : State) : Host.Outcome State Fault Refusal := commit (progMovReg16Iv r imm) s

/-- LES (40_data_transfer.md R185). -/
def progLes (reg : Reg16) (m : Mem) (c : Cpu) : Prog := readPointer m c fun o s => .retire ((c.set16 reg o).setSeg .es s)

/-- `LES_Gv_Mp` as a Level A step. -/
def execLes (reg : Reg16) (m : Mem) (s : State) : Host.Outcome State Fault Refusal := commit (progLes reg m) s

/-- LDS (40_data_transfer.md R184). -/
def progLds (reg : Reg16) (m : Mem) (c : Cpu) : Prog := readPointer m c fun o s => .retire ((c.set16 reg o).setSeg .ds s)

/-- `LDS_Gv_Mp` as a Level A step. -/
def execLds (reg : Reg16) (m : Mem) (s : State) : Host.Outcome State Fault Refusal := commit (progLds reg m) s

/-- MOV Eb,Ib (40_data_transfer.md R170). -/
def progMovEbIb (rm : RM8) (imm : Byte) (c : Cpu) : Prog := movTo byteWidth rm imm c

/-- `MOV_Eb_Ib` as a Level A step. -/
def execMovEbIb (rm : RM8) (imm : Byte) (s : State) : Host.Outcome State Fault Refusal := commit (progMovEbIb rm imm) s

/-- MOV Ev,Iv (40_data_transfer.md R170). -/
def progMovEvIv (rm : RM16) (imm : Word) (c : Cpu) : Prog := movTo wordWidth rm imm c

/-- `MOV_Ev_Iv` as a Level A step. -/
def execMovEvIv (rm : RM16) (imm : Word) (s : State) : Host.Outcome State Fault Refusal := commit (progMovEvIv rm imm) s

/-- IN AL,Ib (40_data_transfer.md R180). -/
def progInALIb (imm : Byte) (c : Cpu) : Prog := input byteWidth (zext imm) c

/-- `IN_AL_Ib` as a Level A step. -/
def execInALIb (imm : Byte) (s : State) : Host.Outcome State Fault Refusal := commit (progInALIb imm) s

/-- IN AX,Ib (40_data_transfer.md R180). -/
def progInAXIb (imm : Byte) (c : Cpu) : Prog := input wordWidth (zext imm) c

/-- `IN_AX_Ib` as a Level A step. -/
def execInAXIb (imm : Byte) (s : State) : Host.Outcome State Fault Refusal := commit (progInAXIb imm) s

/-- OUT Ib,AL (40_data_transfer.md R181). -/
def progOutIbAL (imm : Byte) (c : Cpu) : Prog := output byteWidth (zext imm) c

/-- `OUT_Ib_AL` as a Level A step. -/
def execOutIbAL (imm : Byte) (s : State) : Host.Outcome State Fault Refusal := commit (progOutIbAL imm) s

/-- OUT Ib,AX (40_data_transfer.md R181). -/
def progOutIbAX (imm : Byte) (c : Cpu) : Prog := output wordWidth (zext imm) c

/-- `OUT_Ib_AX` as a Level A step. -/
def execOutIbAX (imm : Byte) (s : State) : Host.Outcome State Fault Refusal := commit (progOutIbAX imm) s

/-- PUSH r/m16: of SP a free word (40_data_transfer.md R174). -/
def progPushEv (rm : RM16) (c : Cpu) : Prog :=
  match rm with
  | .reg .sp => push16 c.freeWord c.drew .retire
  | .reg r => push16 (c.r16 r) c .retire
  | .mem m => readWord (c.memSeg m) (c.offset m) fun v => push16 v c .retire

/-- `PUSH_Ev` as a Level A step. -/
def execPushEv (rm : RM16) (s : State) : Host.Outcome State Fault Refusal := commit (progPushEv rm) s

/-- PUSH ES (40_data_transfer.md R173). -/
def progPushES (c : Cpu) : Prog := push16 c.es c .retire

/-- `PUSH_ES` as a Level A step. -/
def execPushES (s : State) : Host.Outcome State Fault Refusal := commit progPushES s

/-- POP ES (40_data_transfer.md R176). -/
def progPopES (c : Cpu) : Prog := popSeg .es c

/-- `POP_ES` as a Level A step. -/
def execPopES (s : State) : Host.Outcome State Fault Refusal := commit progPopES s

/-- PUSH CS (40_data_transfer.md R173). -/
def progPushCS (c : Cpu) : Prog := push16 c.cs c .retire

/-- `PUSH_CS` as a Level A step. -/
def execPushCS (s : State) : Host.Outcome State Fault Refusal := commit progPushCS s

/-- POP CS (40_data_transfer.md R176, 30_encoding.md R150). -/
def progPopCS (c : Cpu) : Prog := popSeg .cs c

/-- `POP_CS__undocumented` as a Level A step. -/
def execPopCS (s : State) : Host.Outcome State Fault Refusal := commit progPopCS s

/-- PUSH SS (40_data_transfer.md R173). -/
def progPushSS (c : Cpu) : Prog := push16 c.ss c .retire

/-- `PUSH_SS` as a Level A step. -/
def execPushSS (s : State) : Host.Outcome State Fault Refusal := commit progPushSS s

/-- POP SS (40_data_transfer.md R176). -/
def progPopSS (c : Cpu) : Prog := popSeg .ss c

/-- `POP_SS` as a Level A step. -/
def execPopSS (s : State) : Host.Outcome State Fault Refusal := commit progPopSS s

/-- PUSH DS (40_data_transfer.md R173). -/
def progPushDS (c : Cpu) : Prog := push16 c.ds c .retire

/-- `PUSH_DS` as a Level A step. -/
def execPushDS (s : State) : Host.Outcome State Fault Refusal := commit progPushDS s

/-- POP DS (40_data_transfer.md R176). -/
def progPopDS (c : Cpu) : Prog := popSeg .ds c

/-- `POP_DS` as a Level A step. -/
def execPopDS (s : State) : Host.Outcome State Fault Refusal := commit progPopDS s

/-- XCHG AX,CX (40_data_transfer.md R179). -/
def progXchgAXCX (c : Cpu) : Prog := .retire { c with ax := c.cx, cx := c.ax }

/-- `XCHG_AX_CX` as a Level A step. -/
def execXchgAXCX (s : State) : Host.Outcome State Fault Refusal := commit progXchgAXCX s

/-- XCHG AX,DX (40_data_transfer.md R179). -/
def progXchgAXDX (c : Cpu) : Prog := .retire { c with ax := c.dx, dx := c.ax }

/-- `XCHG_AX_DX` as a Level A step. -/
def execXchgAXDX (s : State) : Host.Outcome State Fault Refusal := commit progXchgAXDX s

/-- XCHG AX,BX (40_data_transfer.md R179). -/
def progXchgAXBX (c : Cpu) : Prog := .retire { c with ax := c.bx, bx := c.ax }

/-- `XCHG_AX_BX` as a Level A step. -/
def execXchgAXBX (s : State) : Host.Outcome State Fault Refusal := commit progXchgAXBX s

/-- XCHG AX,SP (40_data_transfer.md R179). -/
def progXchgAXSP (c : Cpu) : Prog := .retire { c with ax := c.sp, sp := c.ax }

/-- `XCHG_AX_SP` as a Level A step. -/
def execXchgAXSP (s : State) : Host.Outcome State Fault Refusal := commit progXchgAXSP s

/-- XCHG AX,BP (40_data_transfer.md R179). -/
def progXchgAXBP (c : Cpu) : Prog := .retire { c with ax := c.bp, bp := c.ax }

/-- `XCHG_AX_BP` as a Level A step. -/
def execXchgAXBP (s : State) : Host.Outcome State Fault Refusal := commit progXchgAXBP s

/-- XCHG AX,SI (40_data_transfer.md R179). -/
def progXchgAXSI (c : Cpu) : Prog := .retire { c with ax := c.si, si := c.ax }

/-- `XCHG_AX_SI` as a Level A step. -/
def execXchgAXSI (s : State) : Host.Outcome State Fault Refusal := commit progXchgAXSI s

/-- XCHG AX,DI (40_data_transfer.md R179). -/
def progXchgAXDI (c : Cpu) : Prog := .retire { c with ax := c.di, di := c.ax }

/-- `XCHG_AX_DI` as a Level A step. -/
def execXchgAXDI (s : State) : Host.Outcome State Fault Refusal := commit progXchgAXDI s

/-- PUSHF (40_data_transfer.md R188). -/
def progPushf (c : Cpu) : Prog := push16 c.flags.image c .retire

/-- `PUSHF` as a Level A step. -/
def execPushf (s : State) : Host.Outcome State Fault Refusal := commit progPushf s

/-- POPF (40_data_transfer.md R189). -/
def progPopf (c : Cpu) : Prog := pop16 c fun v d => .retire { d with flags := Flags.ofImage v }

/-- `POPF` as a Level A step. -/
def execPopf (s : State) : Host.Outcome State Fault Refusal := commit progPopf s

/-- SAHF (40_data_transfer.md R187). -/
def progSahf (c : Cpu) : Prog := .retire { c with flags := c.flags.withLow (c.r8 .ah) }

/-- `SAHF` as a Level A step. -/
def execSahf (s : State) : Host.Outcome State Fault Refusal := commit progSahf s

/-- LAHF (40_data_transfer.md R186). -/
def progLahf (c : Cpu) : Prog := .retire (c.set8 .ah c.flags.lowImage)

/-- `LAHF` as a Level A step. -/
def execLahf (s : State) : Host.Outcome State Fault Refusal := commit progLahf s

/-- XLAT (40_data_transfer.md R182). -/
def progXlat (c : Cpu) : Prog := readByte (c.segOr .ds) (c.bx + zext (c.r8 .al)) fun b => .retire (c.set8 .al b)

/-- `XLAT` as a Level A step. -/
def execXlat (s : State) : Host.Outcome State Fault Refusal := commit progXlat s

/-- IN AL,DX (40_data_transfer.md R180). -/
def progInALDX (c : Cpu) : Prog := input byteWidth c.dx c

/-- `IN_AL_DX` as a Level A step. -/
def execInALDX (s : State) : Host.Outcome State Fault Refusal := commit progInALDX s

/-- IN AX,DX (40_data_transfer.md R180). -/
def progInAXDX (c : Cpu) : Prog := input wordWidth c.dx c

/-- `IN_AX_DX` as a Level A step. -/
def execInAXDX (s : State) : Host.Outcome State Fault Refusal := commit progInAXDX s

/-- OUT DX,AL (40_data_transfer.md R181). -/
def progOutDXAL (c : Cpu) : Prog := output byteWidth c.dx c

/-- `OUT_DX_AL` as a Level A step. -/
def execOutDXAL (s : State) : Host.Outcome State Fault Refusal := commit progOutDXAL s

/-- OUT DX,AX (40_data_transfer.md R181). -/
def progOutDXAX (c : Cpu) : Prog := output wordWidth c.dx c

/-- `OUT_DX_AX` as a Level A step. -/
def execOutDXAX (s : State) : Host.Outcome State Fault Refusal := commit progOutDXAX s

end Sys2Proof.Machine
end

