-- ==== Sys2Proof/Machine/Logic.lean ====
section
/-!
DEFINITION. The logic, shift and rotate instructions (42_logic_shift.md).
Each instruction has its program (`prog…`), which Level T runs access by access, and its Level A step (`exec…`).
-/
namespace Sys2Proof.Machine

/-- OR (42_logic_shift.md R241, 41_arithmetic.md R231). -/
def progOrEbGb (rm : RM8) (reg : Reg8) (c : Cpu) : Prog := aluRmReg byteWidth .or rm reg c

/-- `OR_Eb_Gb` as a Level A step. -/
def execOrEbGb (rm : RM8) (reg : Reg8) (s : State) : Host.Outcome State Fault Refusal := commit (progOrEbGb rm reg) s

/-- OR (42_logic_shift.md R241, 41_arithmetic.md R231). -/
def progOrEvGv (rm : RM16) (reg : Reg16) (c : Cpu) : Prog := aluRmReg wordWidth .or rm reg c

/-- `OR_Ev_Gv` as a Level A step. -/
def execOrEvGv (rm : RM16) (reg : Reg16) (s : State) : Host.Outcome State Fault Refusal := commit (progOrEvGv rm reg) s

/-- OR (42_logic_shift.md R241, 41_arithmetic.md R231). -/
def progOrGbEb (reg : Reg8) (rm : RM8) (c : Cpu) : Prog := aluRegRm byteWidth .or reg rm c

/-- `OR_Gb_Eb` as a Level A step. -/
def execOrGbEb (reg : Reg8) (rm : RM8) (s : State) : Host.Outcome State Fault Refusal := commit (progOrGbEb reg rm) s

/-- OR (42_logic_shift.md R241, 41_arithmetic.md R231). -/
def progOrGvEv (reg : Reg16) (rm : RM16) (c : Cpu) : Prog := aluRegRm wordWidth .or reg rm c

/-- `OR_Gv_Ev` as a Level A step. -/
def execOrGvEv (reg : Reg16) (rm : RM16) (s : State) : Host.Outcome State Fault Refusal := commit (progOrGvEv reg rm) s

/-- OR (42_logic_shift.md R241, 41_arithmetic.md R231). -/
def progOrALIb (imm : Byte) (c : Cpu) : Prog := aluAcc byteWidth .or imm c

/-- `OR_AL_Ib` as a Level A step. -/
def execOrALIb (imm : Byte) (s : State) : Host.Outcome State Fault Refusal := commit (progOrALIb imm) s

/-- OR (42_logic_shift.md R241, 41_arithmetic.md R231). -/
def progOrAXIv (imm : Word) (c : Cpu) : Prog := aluAcc wordWidth .or imm c

/-- `OR_AX_Iv` as a Level A step. -/
def execOrAXIv (imm : Word) (s : State) : Host.Outcome State Fault Refusal := commit (progOrAXIv imm) s

/-- AND (42_logic_shift.md R240, 41_arithmetic.md R231). -/
def progAndEbGb (rm : RM8) (reg : Reg8) (c : Cpu) : Prog := aluRmReg byteWidth .and rm reg c

/-- `AND_Eb_Gb` as a Level A step. -/
def execAndEbGb (rm : RM8) (reg : Reg8) (s : State) : Host.Outcome State Fault Refusal := commit (progAndEbGb rm reg) s

/-- AND (42_logic_shift.md R240, 41_arithmetic.md R231). -/
def progAndEvGv (rm : RM16) (reg : Reg16) (c : Cpu) : Prog := aluRmReg wordWidth .and rm reg c

/-- `AND_Ev_Gv` as a Level A step. -/
def execAndEvGv (rm : RM16) (reg : Reg16) (s : State) : Host.Outcome State Fault Refusal := commit (progAndEvGv rm reg) s

/-- AND (42_logic_shift.md R240, 41_arithmetic.md R231). -/
def progAndGbEb (reg : Reg8) (rm : RM8) (c : Cpu) : Prog := aluRegRm byteWidth .and reg rm c

/-- `AND_Gb_Eb` as a Level A step. -/
def execAndGbEb (reg : Reg8) (rm : RM8) (s : State) : Host.Outcome State Fault Refusal := commit (progAndGbEb reg rm) s

/-- AND (42_logic_shift.md R240, 41_arithmetic.md R231). -/
def progAndGvEv (reg : Reg16) (rm : RM16) (c : Cpu) : Prog := aluRegRm wordWidth .and reg rm c

/-- `AND_Gv_Ev` as a Level A step. -/
def execAndGvEv (reg : Reg16) (rm : RM16) (s : State) : Host.Outcome State Fault Refusal := commit (progAndGvEv reg rm) s

/-- AND (42_logic_shift.md R240, 41_arithmetic.md R231). -/
def progAndALIb (imm : Byte) (c : Cpu) : Prog := aluAcc byteWidth .and imm c

/-- `AND_AL_Ib` as a Level A step. -/
def execAndALIb (imm : Byte) (s : State) : Host.Outcome State Fault Refusal := commit (progAndALIb imm) s

/-- AND (42_logic_shift.md R240, 41_arithmetic.md R231). -/
def progAndAXIv (imm : Word) (c : Cpu) : Prog := aluAcc wordWidth .and imm c

/-- `AND_AX_Iv` as a Level A step. -/
def execAndAXIv (imm : Word) (s : State) : Host.Outcome State Fault Refusal := commit (progAndAXIv imm) s

/-- XOR (42_logic_shift.md R242, 41_arithmetic.md R231). -/
def progXorEbGb (rm : RM8) (reg : Reg8) (c : Cpu) : Prog := aluRmReg byteWidth .xor rm reg c

/-- `XOR_Eb_Gb` as a Level A step. -/
def execXorEbGb (rm : RM8) (reg : Reg8) (s : State) : Host.Outcome State Fault Refusal := commit (progXorEbGb rm reg) s

/-- XOR (42_logic_shift.md R242, 41_arithmetic.md R231). -/
def progXorEvGv (rm : RM16) (reg : Reg16) (c : Cpu) : Prog := aluRmReg wordWidth .xor rm reg c

/-- `XOR_Ev_Gv` as a Level A step. -/
def execXorEvGv (rm : RM16) (reg : Reg16) (s : State) : Host.Outcome State Fault Refusal := commit (progXorEvGv rm reg) s

/-- XOR (42_logic_shift.md R242, 41_arithmetic.md R231). -/
def progXorGbEb (reg : Reg8) (rm : RM8) (c : Cpu) : Prog := aluRegRm byteWidth .xor reg rm c

/-- `XOR_Gb_Eb` as a Level A step. -/
def execXorGbEb (reg : Reg8) (rm : RM8) (s : State) : Host.Outcome State Fault Refusal := commit (progXorGbEb reg rm) s

/-- XOR (42_logic_shift.md R242, 41_arithmetic.md R231). -/
def progXorGvEv (reg : Reg16) (rm : RM16) (c : Cpu) : Prog := aluRegRm wordWidth .xor reg rm c

/-- `XOR_Gv_Ev` as a Level A step. -/
def execXorGvEv (reg : Reg16) (rm : RM16) (s : State) : Host.Outcome State Fault Refusal := commit (progXorGvEv reg rm) s

/-- XOR (42_logic_shift.md R242, 41_arithmetic.md R231). -/
def progXorALIb (imm : Byte) (c : Cpu) : Prog := aluAcc byteWidth .xor imm c

/-- `XOR_AL_Ib` as a Level A step. -/
def execXorALIb (imm : Byte) (s : State) : Host.Outcome State Fault Refusal := commit (progXorALIb imm) s

/-- XOR (42_logic_shift.md R242, 41_arithmetic.md R231). -/
def progXorAXIv (imm : Word) (c : Cpu) : Prog := aluAcc wordWidth .xor imm c

/-- `XOR_AX_Iv` as a Level A step. -/
def execXorAXIv (imm : Word) (s : State) : Host.Outcome State Fault Refusal := commit (progXorAXIv imm) s

/-- OR (42_logic_shift.md R241, 41_arithmetic.md R231). -/
def progOrEbIb (rm : RM8) (imm : Byte) (c : Cpu) : Prog := aluRmImm byteWidth .or rm imm c

/-- `OR_Eb_Ib` as a Level A step. -/
def execOrEbIb (rm : RM8) (imm : Byte) (s : State) : Host.Outcome State Fault Refusal := commit (progOrEbIb rm imm) s

/-- AND (42_logic_shift.md R240, 41_arithmetic.md R231). -/
def progAndEbIb (rm : RM8) (imm : Byte) (c : Cpu) : Prog := aluRmImm byteWidth .and rm imm c

/-- `AND_Eb_Ib` as a Level A step. -/
def execAndEbIb (rm : RM8) (imm : Byte) (s : State) : Host.Outcome State Fault Refusal := commit (progAndEbIb rm imm) s

/-- XOR (42_logic_shift.md R242, 41_arithmetic.md R231). -/
def progXorEbIb (rm : RM8) (imm : Byte) (c : Cpu) : Prog := aluRmImm byteWidth .xor rm imm c

/-- `XOR_Eb_Ib` as a Level A step. -/
def execXorEbIb (rm : RM8) (imm : Byte) (s : State) : Host.Outcome State Fault Refusal := commit (progXorEbIb rm imm) s

/-- OR (42_logic_shift.md R241, 41_arithmetic.md R231). -/
def progOrEvIv (rm : RM16) (imm : Word) (c : Cpu) : Prog := aluRmImm wordWidth .or rm imm c

/-- `OR_Ev_Iv` as a Level A step. -/
def execOrEvIv (rm : RM16) (imm : Word) (s : State) : Host.Outcome State Fault Refusal := commit (progOrEvIv rm imm) s

/-- AND (42_logic_shift.md R240, 41_arithmetic.md R231). -/
def progAndEvIv (rm : RM16) (imm : Word) (c : Cpu) : Prog := aluRmImm wordWidth .and rm imm c

/-- `AND_Ev_Iv` as a Level A step. -/
def execAndEvIv (rm : RM16) (imm : Word) (s : State) : Host.Outcome State Fault Refusal := commit (progAndEvIv rm imm) s

/-- XOR (42_logic_shift.md R242, 41_arithmetic.md R231). -/
def progXorEvIv (rm : RM16) (imm : Word) (c : Cpu) : Prog := aluRmImm wordWidth .xor rm imm c

/-- `XOR_Ev_Iv` as a Level A step. -/
def execXorEvIv (rm : RM16) (imm : Word) (s : State) : Host.Outcome State Fault Refusal := commit (progXorEvIv rm imm) s

/-- OR (42_logic_shift.md R241, 41_arithmetic.md R231; 82, as 80 (30_encoding.md R150)). -/
def progOrEbIb82 (rm : RM8) (imm : Byte) (c : Cpu) : Prog := aluRmImm byteWidth .or rm imm c

/-- `OR_Eb_Ib__undocumented_alias_of_80` as a Level A step. -/
def execOrEbIb82 (rm : RM8) (imm : Byte) (s : State) : Host.Outcome State Fault Refusal := commit (progOrEbIb82 rm imm) s

/-- AND (42_logic_shift.md R240, 41_arithmetic.md R231; 82, as 80 (30_encoding.md R150)). -/
def progAndEbIb82 (rm : RM8) (imm : Byte) (c : Cpu) : Prog := aluRmImm byteWidth .and rm imm c

/-- `AND_Eb_Ib__undocumented_alias_of_80` as a Level A step. -/
def execAndEbIb82 (rm : RM8) (imm : Byte) (s : State) : Host.Outcome State Fault Refusal := commit (progAndEbIb82 rm imm) s

/-- XOR (42_logic_shift.md R242, 41_arithmetic.md R231; 82, as 80 (30_encoding.md R150)). -/
def progXorEbIb82 (rm : RM8) (imm : Byte) (c : Cpu) : Prog := aluRmImm byteWidth .xor rm imm c

/-- `XOR_Eb_Ib__undocumented_alias_of_80` as a Level A step. -/
def execXorEbIb82 (rm : RM8) (imm : Byte) (s : State) : Host.Outcome State Fault Refusal := commit (progXorEbIb82 rm imm) s

/-- OR (42_logic_shift.md R241, 41_arithmetic.md R231; 83 /n, a byte sign-extended to a word). -/
def progOrEvIbs (rm : RM16) (imm : Byte) (c : Cpu) : Prog := aluRmImm wordWidth .or rm (sext imm) c

/-- `OR_Ev_Ib_sign-extended___undocumented` as a Level A step. -/
def execOrEvIbs (rm : RM16) (imm : Byte) (s : State) : Host.Outcome State Fault Refusal := commit (progOrEvIbs rm imm) s

/-- AND (42_logic_shift.md R240, 41_arithmetic.md R231; 83 /n, a byte sign-extended to a word). -/
def progAndEvIbs (rm : RM16) (imm : Byte) (c : Cpu) : Prog := aluRmImm wordWidth .and rm (sext imm) c

/-- `AND_Ev_Ib_sign-extended___undocumented` as a Level A step. -/
def execAndEvIbs (rm : RM16) (imm : Byte) (s : State) : Host.Outcome State Fault Refusal := commit (progAndEvIbs rm imm) s

/-- XOR (42_logic_shift.md R242, 41_arithmetic.md R231; 83 /n, a byte sign-extended to a word). -/
def progXorEvIbs (rm : RM16) (imm : Byte) (c : Cpu) : Prog := aluRmImm wordWidth .xor rm (sext imm) c

/-- `XOR_Ev_Ib_sign-extended___undocumented` as a Level A step. -/
def execXorEvIbs (rm : RM16) (imm : Byte) (s : State) : Host.Outcome State Fault Refusal := commit (progXorEvIbs rm imm) s

/-- TEST (42_logic_shift.md R243). -/
def progTestEbGb (rm : RM8) (reg : Reg8) (c : Cpu) : Prog := testRmReg byteWidth rm reg c

/-- `TEST_Eb_Gb` as a Level A step. -/
def execTestEbGb (rm : RM8) (reg : Reg8) (s : State) : Host.Outcome State Fault Refusal := commit (progTestEbGb rm reg) s

/-- TEST (42_logic_shift.md R243). -/
def progTestEvGv (rm : RM16) (reg : Reg16) (c : Cpu) : Prog := testRmReg wordWidth rm reg c

/-- `TEST_Ev_Gv` as a Level A step. -/
def execTestEvGv (rm : RM16) (reg : Reg16) (s : State) : Host.Outcome State Fault Refusal := commit (progTestEvGv rm reg) s

/-- TEST (42_logic_shift.md R243). -/
def progTestALIb (imm : Byte) (c : Cpu) : Prog := testAcc byteWidth imm c

/-- `TEST_AL_Ib` as a Level A step. -/
def execTestALIb (imm : Byte) (s : State) : Host.Outcome State Fault Refusal := commit (progTestALIb imm) s

/-- TEST (42_logic_shift.md R243). -/
def progTestAXIv (imm : Word) (c : Cpu) : Prog := testAcc wordWidth imm c

/-- `TEST_AX_Iv` as a Level A step. -/
def execTestAXIv (imm : Word) (s : State) : Host.Outcome State Fault Refusal := commit (progTestAXIv imm) s

/-- ROL (42_logic_shift.md R250, R248). -/
def progRolEb1 (rm : RM8) (c : Cpu) : Prog := shiftRm byteWidth .rol rm 1 c

/-- `ROL_Eb_1` as a Level A step. -/
def execRolEb1 (rm : RM8) (s : State) : Host.Outcome State Fault Refusal := commit (progRolEb1 rm) s

/-- ROR (42_logic_shift.md R251, R248). -/
def progRorEb1 (rm : RM8) (c : Cpu) : Prog := shiftRm byteWidth .ror rm 1 c

/-- `ROR_Eb_1` as a Level A step. -/
def execRorEb1 (rm : RM8) (s : State) : Host.Outcome State Fault Refusal := commit (progRorEb1 rm) s

/-- RCL (42_logic_shift.md R252, R248). -/
def progRclEb1 (rm : RM8) (c : Cpu) : Prog := shiftRm byteWidth .rcl rm 1 c

/-- `RCL_Eb_1` as a Level A step. -/
def execRclEb1 (rm : RM8) (s : State) : Host.Outcome State Fault Refusal := commit (progRclEb1 rm) s

/-- RCR (42_logic_shift.md R253, R248). -/
def progRcrEb1 (rm : RM8) (c : Cpu) : Prog := shiftRm byteWidth .rcr rm 1 c

/-- `RCR_Eb_1` as a Level A step. -/
def execRcrEb1 (rm : RM8) (s : State) : Host.Outcome State Fault Refusal := commit (progRcrEb1 rm) s

/-- SHL (42_logic_shift.md R254, R248). -/
def progShlEb1 (rm : RM8) (c : Cpu) : Prog := shiftRm byteWidth .shl rm 1 c

/-- `SHL_Eb_1` as a Level A step. -/
def execShlEb1 (rm : RM8) (s : State) : Host.Outcome State Fault Refusal := commit (progShlEb1 rm) s

/-- SHR (42_logic_shift.md R255, R248). -/
def progShrEb1 (rm : RM8) (c : Cpu) : Prog := shiftRm byteWidth .shr rm 1 c

/-- `SHR_Eb_1` as a Level A step. -/
def execShrEb1 (rm : RM8) (s : State) : Host.Outcome State Fault Refusal := commit (progShrEb1 rm) s

/-- SAR (42_logic_shift.md R256, R248). -/
def progSarEb1 (rm : RM8) (c : Cpu) : Prog := shiftRm byteWidth .sar rm 1 c

/-- `SAR_Eb_1` as a Level A step. -/
def execSarEb1 (rm : RM8) (s : State) : Host.Outcome State Fault Refusal := commit (progSarEb1 rm) s

/-- ROL (42_logic_shift.md R250, R248). -/
def progRolEv1 (rm : RM16) (c : Cpu) : Prog := shiftRm wordWidth .rol rm 1 c

/-- `ROL_Ev_1` as a Level A step. -/
def execRolEv1 (rm : RM16) (s : State) : Host.Outcome State Fault Refusal := commit (progRolEv1 rm) s

/-- ROR (42_logic_shift.md R251, R248). -/
def progRorEv1 (rm : RM16) (c : Cpu) : Prog := shiftRm wordWidth .ror rm 1 c

/-- `ROR_Ev_1` as a Level A step. -/
def execRorEv1 (rm : RM16) (s : State) : Host.Outcome State Fault Refusal := commit (progRorEv1 rm) s

/-- RCL (42_logic_shift.md R252, R248). -/
def progRclEv1 (rm : RM16) (c : Cpu) : Prog := shiftRm wordWidth .rcl rm 1 c

/-- `RCL_Ev_1` as a Level A step. -/
def execRclEv1 (rm : RM16) (s : State) : Host.Outcome State Fault Refusal := commit (progRclEv1 rm) s

/-- RCR (42_logic_shift.md R253, R248). -/
def progRcrEv1 (rm : RM16) (c : Cpu) : Prog := shiftRm wordWidth .rcr rm 1 c

/-- `RCR_Ev_1` as a Level A step. -/
def execRcrEv1 (rm : RM16) (s : State) : Host.Outcome State Fault Refusal := commit (progRcrEv1 rm) s

/-- SHL (42_logic_shift.md R254, R248). -/
def progShlEv1 (rm : RM16) (c : Cpu) : Prog := shiftRm wordWidth .shl rm 1 c

/-- `SHL_Ev_1` as a Level A step. -/
def execShlEv1 (rm : RM16) (s : State) : Host.Outcome State Fault Refusal := commit (progShlEv1 rm) s

/-- SHR (42_logic_shift.md R255, R248). -/
def progShrEv1 (rm : RM16) (c : Cpu) : Prog := shiftRm wordWidth .shr rm 1 c

/-- `SHR_Ev_1` as a Level A step. -/
def execShrEv1 (rm : RM16) (s : State) : Host.Outcome State Fault Refusal := commit (progShrEv1 rm) s

/-- SAR (42_logic_shift.md R256, R248). -/
def progSarEv1 (rm : RM16) (c : Cpu) : Prog := shiftRm wordWidth .sar rm 1 c

/-- `SAR_Ev_1` as a Level A step. -/
def execSarEv1 (rm : RM16) (s : State) : Host.Outcome State Fault Refusal := commit (progSarEv1 rm) s

/-- ROL (42_logic_shift.md R250, R248). -/
def progRolEbCL (rm : RM8) (c : Cpu) : Prog := shiftRmCl byteWidth .rol rm c

/-- `ROL_Eb_CL` as a Level A step. -/
def execRolEbCL (rm : RM8) (s : State) : Host.Outcome State Fault Refusal := commit (progRolEbCL rm) s

/-- ROR (42_logic_shift.md R251, R248). -/
def progRorEbCL (rm : RM8) (c : Cpu) : Prog := shiftRmCl byteWidth .ror rm c

/-- `ROR_Eb_CL` as a Level A step. -/
def execRorEbCL (rm : RM8) (s : State) : Host.Outcome State Fault Refusal := commit (progRorEbCL rm) s

/-- RCL (42_logic_shift.md R252, R248). -/
def progRclEbCL (rm : RM8) (c : Cpu) : Prog := shiftRmCl byteWidth .rcl rm c

/-- `RCL_Eb_CL` as a Level A step. -/
def execRclEbCL (rm : RM8) (s : State) : Host.Outcome State Fault Refusal := commit (progRclEbCL rm) s

/-- RCR (42_logic_shift.md R253, R248). -/
def progRcrEbCL (rm : RM8) (c : Cpu) : Prog := shiftRmCl byteWidth .rcr rm c

/-- `RCR_Eb_CL` as a Level A step. -/
def execRcrEbCL (rm : RM8) (s : State) : Host.Outcome State Fault Refusal := commit (progRcrEbCL rm) s

/-- SHL (42_logic_shift.md R254, R248). -/
def progShlEbCL (rm : RM8) (c : Cpu) : Prog := shiftRmCl byteWidth .shl rm c

/-- `SHL_Eb_CL` as a Level A step. -/
def execShlEbCL (rm : RM8) (s : State) : Host.Outcome State Fault Refusal := commit (progShlEbCL rm) s

/-- SHR (42_logic_shift.md R255, R248). -/
def progShrEbCL (rm : RM8) (c : Cpu) : Prog := shiftRmCl byteWidth .shr rm c

/-- `SHR_Eb_CL` as a Level A step. -/
def execShrEbCL (rm : RM8) (s : State) : Host.Outcome State Fault Refusal := commit (progShrEbCL rm) s

/-- SAR (42_logic_shift.md R256, R248). -/
def progSarEbCL (rm : RM8) (c : Cpu) : Prog := shiftRmCl byteWidth .sar rm c

/-- `SAR_Eb_CL` as a Level A step. -/
def execSarEbCL (rm : RM8) (s : State) : Host.Outcome State Fault Refusal := commit (progSarEbCL rm) s

/-- ROL (42_logic_shift.md R250, R248). -/
def progRolEvCL (rm : RM16) (c : Cpu) : Prog := shiftRmCl wordWidth .rol rm c

/-- `ROL_Ev_CL` as a Level A step. -/
def execRolEvCL (rm : RM16) (s : State) : Host.Outcome State Fault Refusal := commit (progRolEvCL rm) s

/-- ROR (42_logic_shift.md R251, R248). -/
def progRorEvCL (rm : RM16) (c : Cpu) : Prog := shiftRmCl wordWidth .ror rm c

/-- `ROR_Ev_CL` as a Level A step. -/
def execRorEvCL (rm : RM16) (s : State) : Host.Outcome State Fault Refusal := commit (progRorEvCL rm) s

/-- RCL (42_logic_shift.md R252, R248). -/
def progRclEvCL (rm : RM16) (c : Cpu) : Prog := shiftRmCl wordWidth .rcl rm c

/-- `RCL_Ev_CL` as a Level A step. -/
def execRclEvCL (rm : RM16) (s : State) : Host.Outcome State Fault Refusal := commit (progRclEvCL rm) s

/-- RCR (42_logic_shift.md R253, R248). -/
def progRcrEvCL (rm : RM16) (c : Cpu) : Prog := shiftRmCl wordWidth .rcr rm c

/-- `RCR_Ev_CL` as a Level A step. -/
def execRcrEvCL (rm : RM16) (s : State) : Host.Outcome State Fault Refusal := commit (progRcrEvCL rm) s

/-- SHL (42_logic_shift.md R254, R248). -/
def progShlEvCL (rm : RM16) (c : Cpu) : Prog := shiftRmCl wordWidth .shl rm c

/-- `SHL_Ev_CL` as a Level A step. -/
def execShlEvCL (rm : RM16) (s : State) : Host.Outcome State Fault Refusal := commit (progShlEvCL rm) s

/-- SHR (42_logic_shift.md R255, R248). -/
def progShrEvCL (rm : RM16) (c : Cpu) : Prog := shiftRmCl wordWidth .shr rm c

/-- `SHR_Ev_CL` as a Level A step. -/
def execShrEvCL (rm : RM16) (s : State) : Host.Outcome State Fault Refusal := commit (progShrEvCL rm) s

/-- SAR (42_logic_shift.md R256, R248). -/
def progSarEvCL (rm : RM16) (c : Cpu) : Prog := shiftRmCl wordWidth .sar rm c

/-- `SAR_Ev_CL` as a Level A step. -/
def execSarEvCL (rm : RM16) (s : State) : Host.Outcome State Fault Refusal := commit (progSarEvCL rm) s

/-- TEST (42_logic_shift.md R243). -/
def progTestEbIb (rm : RM8) (imm : Byte) (c : Cpu) : Prog := testRmImm byteWidth rm imm c

/-- `TEST_Eb_Ib` as a Level A step. -/
def execTestEbIb (rm : RM8) (imm : Byte) (s : State) : Host.Outcome State Fault Refusal := commit (progTestEbIb rm imm) s

/-- TEST (42_logic_shift.md R243; /1, as /0, 30_encoding.md R150). -/
def progTestEbIb1 (rm : RM8) (imm : Byte) (c : Cpu) : Prog := testRmImm byteWidth rm imm c

/-- `TEST_Eb_Ib__undocumented_alias_of__0` as a Level A step. -/
def execTestEbIb1 (rm : RM8) (imm : Byte) (s : State) : Host.Outcome State Fault Refusal := commit (progTestEbIb1 rm imm) s

/-- NOT (42_logic_shift.md R244). -/
def progNotEb (rm : RM8) (c : Cpu) : Prog := notRm byteWidth rm c

/-- `NOT_Eb` as a Level A step. -/
def execNotEb (rm : RM8) (s : State) : Host.Outcome State Fault Refusal := commit (progNotEb rm) s

/-- TEST (42_logic_shift.md R243). -/
def progTestEvIv (rm : RM16) (imm : Word) (c : Cpu) : Prog := testRmImm wordWidth rm imm c

/-- `TEST_Ev_Iv` as a Level A step. -/
def execTestEvIv (rm : RM16) (imm : Word) (s : State) : Host.Outcome State Fault Refusal := commit (progTestEvIv rm imm) s

/-- TEST (42_logic_shift.md R243; /1, as /0, 30_encoding.md R150). -/
def progTestEvIv1 (rm : RM16) (imm : Word) (c : Cpu) : Prog := testRmImm wordWidth rm imm c

/-- `TEST_Ev_Iv__undocumented_alias_of__0` as a Level A step. -/
def execTestEvIv1 (rm : RM16) (imm : Word) (s : State) : Host.Outcome State Fault Refusal := commit (progTestEvIv1 rm imm) s

/-- NOT (42_logic_shift.md R244). -/
def progNotEv (rm : RM16) (c : Cpu) : Prog := notRm wordWidth rm c

/-- `NOT_Ev` as a Level A step. -/
def execNotEv (rm : RM16) (s : State) : Host.Outcome State Fault Refusal := commit (progNotEv rm) s

end Sys2Proof.Machine
end

