-- ==== Sys2Proof/Machine/ProcessorControl.lean ====
section
/-!
DEFINITION. Flag control, the marks that come before an instruction, and processor control (45_processor_control.md).
Each instruction has its program (`prog…`), which Level T runs access by access, and its Level A step (`exec…`).
-/
namespace Sys2Proof.Machine

/-- ESC: a memory operand is read and dropped (45_processor_control.md R343). -/
def progEsc (_op : Oct) (_reg : Oct) (rm : RM16) (c : Cpu) : Prog :=
  match rm with
  | .reg _ => .retire c
  | .mem m => readWord (c.memSeg m) (c.offset m) fun _ => .retire c

/-- `ESC` as a Level A step. -/
def execEsc (op : Oct) (reg : Oct) (rm : RM16) (s : State) : Host.Outcome State Fault Refusal := commit (progEsc op reg rm) s

/-- The ES: mark (45_processor_control.md R333). -/
def progSegES (c : Cpu) : Prog := .more { c.marked .segES with segOverride := some .es }

/-- `ES___segment_override` as a Level A step. -/
def execSegES (s : State) : Host.Outcome State Fault Refusal := commit progSegES s

/-- The CS: mark (45_processor_control.md R333). -/
def progSegCS (c : Cpu) : Prog := .more { c.marked .segCS with segOverride := some .cs }

/-- `CS___segment_override` as a Level A step. -/
def execSegCS (s : State) : Host.Outcome State Fault Refusal := commit progSegCS s

/-- The SS: mark (45_processor_control.md R333). -/
def progSegSS (c : Cpu) : Prog := .more { c.marked .segSS with segOverride := some .ss }

/-- `SS___segment_override` as a Level A step. -/
def execSegSS (s : State) : Host.Outcome State Fault Refusal := commit progSegSS s

/-- The DS: mark (45_processor_control.md R333). -/
def progSegDS (c : Cpu) : Prog := .more { c.marked .segDS with segOverride := some .ds }

/-- `DS___segment_override` as a Level A step. -/
def execSegDS (s : State) : Host.Outcome State Fault Refusal := commit progSegDS s

/-- NOP (45_processor_control.md R340). -/
def progNop (c : Cpu) : Prog := .retire c

/-- `NOP` as a Level A step. -/
def execNop (s : State) : Host.Outcome State Fault Refusal := commit progNop s

/-- WAIT: complete when TEST is true, else waiting (45_processor_control.md R342). -/
def progWait (c : Cpu) : Prog :=
  .test fun t => if t then .retire { c with waiting := false } else .more { c with waiting := true }

/-- `WAIT` as a Level A step. -/
def execWait (s : State) : Host.Outcome State Fault Refusal := commit progWait s

/-- SALC (45_processor_control.md R346). -/
def progSalc (c : Cpu) : Prog := .retire (c.set8 .al (if c.flags.cf then 0xFF else 0))

/-- `SALC__undocumented` as a Level A step. -/
def execSalc (s : State) : Host.Outcome State Fault Refusal := commit progSalc s

/-- The LOCK mark (45_processor_control.md R344). -/
def progLock (c : Cpu) : Prog := .more { c.marked .lock with lockMark := true }

/-- `LOCK__prefix` as a Level A step. -/
def execLock (s : State) : Host.Outcome State Fault Refusal := commit progLock s

/-- The LOCK mark, opcode F1 (45_processor_control.md R344, 30_encoding.md R150). -/
def progLockF1 (c : Cpu) : Prog := .more { c.marked .lockF1 with lockMark := true }

/-- `LOCK__prefix__undocumented_alias_of_F0` as a Level A step. -/
def execLockF1 (s : State) : Host.Outcome State Fault Refusal := commit progLockF1 s

/-- The REPNE mark (30_encoding.md R122, 43_string.md R276). -/
def progRepne (c : Cpu) : Prog := .more { c.marked .repne with repMark := some .repne }

/-- `REPNE___REPNZ__prefix` as a Level A step. -/
def execRepne (s : State) : Host.Outcome State Fault Refusal := commit progRepne s

/-- The REP mark (30_encoding.md R122, 43_string.md R276). -/
def progRep (c : Cpu) : Prog := .more { c.marked .rep with repMark := some .rep }

/-- `REP___REPE___REPZ__prefix` as a Level A step. -/
def execRep (s : State) : Host.Outcome State Fault Refusal := commit progRep s

/-- HLT (45_processor_control.md R341). -/
def progHlt (c : Cpu) : Prog := .retire { c with halted := true }

/-- `HLT` as a Level A step. -/
def execHlt (s : State) : Host.Outcome State Fault Refusal := commit progHlt s

/-- CMC (45_processor_control.md R332). -/
def progCmc (c : Cpu) : Prog := .retire { c with flags := { c.flags with cf := !c.flags.cf } }

/-- `CMC` as a Level A step. -/
def execCmc (s : State) : Host.Outcome State Fault Refusal := commit progCmc s

/-- CLC (45_processor_control.md R330). -/
def progClc (c : Cpu) : Prog := .retire { c with flags := { c.flags with cf := false } }

/-- `CLC` as a Level A step. -/
def execClc (s : State) : Host.Outcome State Fault Refusal := commit progClc s

/-- STC (45_processor_control.md R331). -/
def progStc (c : Cpu) : Prog := .retire { c with flags := { c.flags with cf := true } }

/-- `STC` as a Level A step. -/
def execStc (s : State) : Host.Outcome State Fault Refusal := commit progStc s

/-- CLI (45_processor_control.md R336). -/
def progCli (c : Cpu) : Prog := .retire { c with flags := { c.flags with ifl := false } }

/-- `CLI` as a Level A step. -/
def execCli (s : State) : Host.Outcome State Fault Refusal := commit progCli s

/-- STI: no maskable interrupt at the next boundary if IF was clear (45_processor_control.md R337). -/
def progSti (c : Cpu) : Prog :=
  .retire { c with
    flags := { c.flags with ifl := true }, inhibit := if c.flags.ifl then c.inhibit else .maskable }

/-- `STI` as a Level A step. -/
def execSti (s : State) : Host.Outcome State Fault Refusal := commit progSti s

/-- CLD (45_processor_control.md R334). -/
def progCld (c : Cpu) : Prog := .retire { c with flags := { c.flags with df := false } }

/-- `CLD` as a Level A step. -/
def execCld (s : State) : Host.Outcome State Fault Refusal := commit progCld s

/-- STD (45_processor_control.md R335). -/
def progStd (c : Cpu) : Prog := .retire { c with flags := { c.flags with df := true } }

/-- `STD` as a Level A step. -/
def execStd (s : State) : Host.Outcome State Fault Refusal := commit progStd s

end Sys2Proof.Machine
end

