-- ==== Sys2Proof/Machine/StringInstr.lean ====
section
/-!
DEFINITION. The string instructions, alone and repeated (43_string.md).
Each instruction has its program (`prog…`), which Level T runs access by access, and its Level A step (`exec…`).
-/
namespace Sys2Proof.Machine

/-- The five operations (43_string.md R270 to R274). -/
inductive StringOp where
  | movs | cmps | scas | lods | stos
deriving DecidableEq, Repr

/-- The operation compares, so the repeat mark looks at ZF (43_string.md R276). -/
def StringOp.compares : StringOp → Bool
  | .cmps | .scas => true
  | .movs | .lods | .stos => false

/-- The ZF value with which a repeat mark goes on (43_string.md R276). -/
def repeatZ : RepKind → Bool
  | .rep => true
  | .repne => false

/-- `delta`: by what an iteration moves an index (43_string.md R275). -/
def Cpu.delta (c : Cpu) (bytes : Word) : Word := if c.flags.df then -bytes else bytes

/-- SI moved by one element. -/
def Cpu.moveSi (c : Cpu) (bytes : Word) : Cpu := { c with si := c.si + c.delta bytes }

/-- DI moved by one element. -/
def Cpu.moveDi (c : Cpu) (bytes : Word) : Cpu := { c with di := c.di + c.delta bytes }

/-- The flags of a comparison (43_string.md R271, R272). -/
def Cpu.compared {n : Nat} (c : Cpu) (a b : BitVec n) : Cpu := { c with flags := c.flags.sub a b false }

/-- One iteration (43_string.md R270 to R275). -/
def iteration {n : Nat} {R : Type} (w : Width n R) (op : StringOp) (c : Cpu) (k : Cpu → Prog) : Prog :=
  match op with
  | .movs => w.read (c.segOr .ds) c.si fun v => w.write c.es c.di v (k ((c.moveSi w.bytes).moveDi w.bytes))
  | .cmps => w.read (c.segOr .ds) c.si fun a => w.read c.es c.di fun b =>
      k (((c.compared a b).moveSi w.bytes).moveDi w.bytes)
  | .scas => w.read c.es c.di fun b => k ((c.compared (w.get c w.acc) b).moveDi w.bytes)
  | .lods => w.read (c.segOr .ds) c.si fun v => k ((w.set c w.acc v).moveSi w.bytes)
  | .stos => w.write c.es c.di (w.get c w.acc) (k (c.moveDi w.bytes))

/-- The repeated instruction completes after an iteration: CX ran out, or a comparison left the other ZF
(43_string.md R276). -/
def repeatDone (op : StringOp) (kind : RepKind) (c : Cpu) : Bool :=
  (op.compares && decide (c.flags.zf ≠ repeatZ kind)) || decide (c.cx = 0)

/-- `REP_ACTIVE <- (prefix, opcode, resume)`, before the first iteration (43_string.md R276). -/
def Cpu.repeating (c : Cpu) (kind : RepKind) (opcode : Byte) : Cpu :=
  { c with repActive := some { kind := kind, opcode := opcode, resume := c.ip - 2 } }

/-- After an iteration of a repeated instruction: CX is decremented, and it completes or stays active
(43_string.md R276). -/
def afterIteration (op : StringOp) (kind : RepKind) (c : Cpu) : Prog :=
  let d := { c with cx := c.cx - 1 }
  if repeatDone op kind d then .retire d else .more d

/-- A string instruction: one iteration alone; with a repeat mark, nothing when CX is 0 and one iteration otherwise, in which
`REP_ACTIVE` is already set (43_string.md R275 to R277). -/
def stringInstr {n : Nat} {R : Type} (w : Width n R) (op : StringOp) (opcode : Byte) (c : Cpu) : Prog :=
  match c.repMark with
  | none => iteration w op c .retire
  | some kind =>
    let d := c.repeating kind opcode
    if c.cx = 0 then .retire c else .note d (iteration w op d (afterIteration op kind))

/-- MOVSB (43_string.md R270, R276). -/
def progMovsb (c : Cpu) : Prog := stringInstr byteWidth .movs 0xA4 c

/-- `MOVSB` as a Level A step. -/
def execMovsb (s : State) : Host.Outcome State Fault Refusal := commit progMovsb s

/-- MOVSW (43_string.md R270, R276). -/
def progMovsw (c : Cpu) : Prog := stringInstr wordWidth .movs 0xA5 c

/-- `MOVSW` as a Level A step. -/
def execMovsw (s : State) : Host.Outcome State Fault Refusal := commit progMovsw s

/-- CMPSB (43_string.md R271, R276). -/
def progCmpsb (c : Cpu) : Prog := stringInstr byteWidth .cmps 0xA6 c

/-- `CMPSB` as a Level A step. -/
def execCmpsb (s : State) : Host.Outcome State Fault Refusal := commit progCmpsb s

/-- CMPSW (43_string.md R271, R276). -/
def progCmpsw (c : Cpu) : Prog := stringInstr wordWidth .cmps 0xA7 c

/-- `CMPSW` as a Level A step. -/
def execCmpsw (s : State) : Host.Outcome State Fault Refusal := commit progCmpsw s

/-- STOSB (43_string.md R274, R276). -/
def progStosb (c : Cpu) : Prog := stringInstr byteWidth .stos 0xAA c

/-- `STOSB` as a Level A step. -/
def execStosb (s : State) : Host.Outcome State Fault Refusal := commit progStosb s

/-- STOSW (43_string.md R274, R276). -/
def progStosw (c : Cpu) : Prog := stringInstr wordWidth .stos 0xAB c

/-- `STOSW` as a Level A step. -/
def execStosw (s : State) : Host.Outcome State Fault Refusal := commit progStosw s

/-- LODSB (43_string.md R273, R276). -/
def progLodsb (c : Cpu) : Prog := stringInstr byteWidth .lods 0xAC c

/-- `LODSB` as a Level A step. -/
def execLodsb (s : State) : Host.Outcome State Fault Refusal := commit progLodsb s

/-- LODSW (43_string.md R273, R276). -/
def progLodsw (c : Cpu) : Prog := stringInstr wordWidth .lods 0xAD c

/-- `LODSW` as a Level A step. -/
def execLodsw (s : State) : Host.Outcome State Fault Refusal := commit progLodsw s

/-- SCASB (43_string.md R272, R276). -/
def progScasb (c : Cpu) : Prog := stringInstr byteWidth .scas 0xAE c

/-- `SCASB` as a Level A step. -/
def execScasb (s : State) : Host.Outcome State Fault Refusal := commit progScasb s

/-- SCASW (43_string.md R272, R276). -/
def progScasw (c : Cpu) : Prog := stringInstr wordWidth .scas 0xAF c

/-- `SCASW` as a Level A step. -/
def execScasw (s : State) : Host.Outcome State Fault Refusal := commit progScasw s

end Sys2Proof.Machine
end

