-- ==== Sys2Proof/Machine/Undefined.lean ====
section
/-!
DEFINITION. The undefined encodings: they fall through (30_encoding.md R147, R151; DESIGN CHOICE, log entry 10).
Each instruction has its program (`prog…`), which Level T runs access by access, and its Level A step (`exec…`).
-/
namespace Sys2Proof.Machine

/-- An undefined encoding: its bytes are consumed and nothing else happens (30_encoding.md R151). -/
def progUndefLea (_reg : Reg16) (_rm : Reg16) (c : Cpu) : Prog := .retire c

/-- `undefined__LEA_with_mod_3` as a Level A step. -/
def execUndefLea (reg : Reg16) (rm : Reg16) (s : State) : Host.Outcome State Fault Refusal := commit (progUndefLea reg rm) s

/-- An undefined encoding: its bytes are consumed and nothing else happens (30_encoding.md R151). -/
def progUndef8F1 (_rm : RM16) (c : Cpu) : Prog := .retire c

/-- `undefined__8F__1` as a Level A step. -/
def execUndef8F1 (rm : RM16) (s : State) : Host.Outcome State Fault Refusal := commit (progUndef8F1 rm) s

/-- An undefined encoding: its bytes are consumed and nothing else happens (30_encoding.md R151). -/
def progUndef8F2 (_rm : RM16) (c : Cpu) : Prog := .retire c

/-- `undefined__8F__2` as a Level A step. -/
def execUndef8F2 (rm : RM16) (s : State) : Host.Outcome State Fault Refusal := commit (progUndef8F2 rm) s

/-- An undefined encoding: its bytes are consumed and nothing else happens (30_encoding.md R151). -/
def progUndef8F3 (_rm : RM16) (c : Cpu) : Prog := .retire c

/-- `undefined__8F__3` as a Level A step. -/
def execUndef8F3 (rm : RM16) (s : State) : Host.Outcome State Fault Refusal := commit (progUndef8F3 rm) s

/-- An undefined encoding: its bytes are consumed and nothing else happens (30_encoding.md R151). -/
def progUndef8F4 (_rm : RM16) (c : Cpu) : Prog := .retire c

/-- `undefined__8F__4` as a Level A step. -/
def execUndef8F4 (rm : RM16) (s : State) : Host.Outcome State Fault Refusal := commit (progUndef8F4 rm) s

/-- An undefined encoding: its bytes are consumed and nothing else happens (30_encoding.md R151). -/
def progUndef8F5 (_rm : RM16) (c : Cpu) : Prog := .retire c

/-- `undefined__8F__5` as a Level A step. -/
def execUndef8F5 (rm : RM16) (s : State) : Host.Outcome State Fault Refusal := commit (progUndef8F5 rm) s

/-- An undefined encoding: its bytes are consumed and nothing else happens (30_encoding.md R151). -/
def progUndef8F6 (_rm : RM16) (c : Cpu) : Prog := .retire c

/-- `undefined__8F__6` as a Level A step. -/
def execUndef8F6 (rm : RM16) (s : State) : Host.Outcome State Fault Refusal := commit (progUndef8F6 rm) s

/-- An undefined encoding: its bytes are consumed and nothing else happens (30_encoding.md R151). -/
def progUndef8F7 (_rm : RM16) (c : Cpu) : Prog := .retire c

/-- `undefined__8F__7` as a Level A step. -/
def execUndef8F7 (rm : RM16) (s : State) : Host.Outcome State Fault Refusal := commit (progUndef8F7 rm) s

/-- An undefined encoding: its bytes are consumed and nothing else happens (30_encoding.md R151). -/
def progUndefLes (_reg : Reg16) (_rm : Reg16) (c : Cpu) : Prog := .retire c

/-- `undefined__LES_with_mod_3` as a Level A step. -/
def execUndefLes (reg : Reg16) (rm : Reg16) (s : State) : Host.Outcome State Fault Refusal := commit (progUndefLes reg rm) s

/-- An undefined encoding: its bytes are consumed and nothing else happens (30_encoding.md R151). -/
def progUndefLds (_reg : Reg16) (_rm : Reg16) (c : Cpu) : Prog := .retire c

/-- `undefined__LDS_with_mod_3` as a Level A step. -/
def execUndefLds (reg : Reg16) (rm : Reg16) (s : State) : Host.Outcome State Fault Refusal := commit (progUndefLds reg rm) s

/-- An undefined encoding: its bytes are consumed and nothing else happens (30_encoding.md R151). -/
def progUndefC61 (_rm : RM8) (_imm : Byte) (c : Cpu) : Prog := .retire c

/-- `undefined__C6__1` as a Level A step. -/
def execUndefC61 (rm : RM8) (imm : Byte) (s : State) : Host.Outcome State Fault Refusal := commit (progUndefC61 rm imm) s

/-- An undefined encoding: its bytes are consumed and nothing else happens (30_encoding.md R151). -/
def progUndefC62 (_rm : RM8) (_imm : Byte) (c : Cpu) : Prog := .retire c

/-- `undefined__C6__2` as a Level A step. -/
def execUndefC62 (rm : RM8) (imm : Byte) (s : State) : Host.Outcome State Fault Refusal := commit (progUndefC62 rm imm) s

/-- An undefined encoding: its bytes are consumed and nothing else happens (30_encoding.md R151). -/
def progUndefC63 (_rm : RM8) (_imm : Byte) (c : Cpu) : Prog := .retire c

/-- `undefined__C6__3` as a Level A step. -/
def execUndefC63 (rm : RM8) (imm : Byte) (s : State) : Host.Outcome State Fault Refusal := commit (progUndefC63 rm imm) s

/-- An undefined encoding: its bytes are consumed and nothing else happens (30_encoding.md R151). -/
def progUndefC64 (_rm : RM8) (_imm : Byte) (c : Cpu) : Prog := .retire c

/-- `undefined__C6__4` as a Level A step. -/
def execUndefC64 (rm : RM8) (imm : Byte) (s : State) : Host.Outcome State Fault Refusal := commit (progUndefC64 rm imm) s

/-- An undefined encoding: its bytes are consumed and nothing else happens (30_encoding.md R151). -/
def progUndefC65 (_rm : RM8) (_imm : Byte) (c : Cpu) : Prog := .retire c

/-- `undefined__C6__5` as a Level A step. -/
def execUndefC65 (rm : RM8) (imm : Byte) (s : State) : Host.Outcome State Fault Refusal := commit (progUndefC65 rm imm) s

/-- An undefined encoding: its bytes are consumed and nothing else happens (30_encoding.md R151). -/
def progUndefC66 (_rm : RM8) (_imm : Byte) (c : Cpu) : Prog := .retire c

/-- `undefined__C6__6` as a Level A step. -/
def execUndefC66 (rm : RM8) (imm : Byte) (s : State) : Host.Outcome State Fault Refusal := commit (progUndefC66 rm imm) s

/-- An undefined encoding: its bytes are consumed and nothing else happens (30_encoding.md R151). -/
def progUndefC67 (_rm : RM8) (_imm : Byte) (c : Cpu) : Prog := .retire c

/-- `undefined__C6__7` as a Level A step. -/
def execUndefC67 (rm : RM8) (imm : Byte) (s : State) : Host.Outcome State Fault Refusal := commit (progUndefC67 rm imm) s

/-- An undefined encoding: its bytes are consumed and nothing else happens (30_encoding.md R151). -/
def progUndefC71 (_rm : RM16) (_imm : Word) (c : Cpu) : Prog := .retire c

/-- `undefined__C7__1` as a Level A step. -/
def execUndefC71 (rm : RM16) (imm : Word) (s : State) : Host.Outcome State Fault Refusal := commit (progUndefC71 rm imm) s

/-- An undefined encoding: its bytes are consumed and nothing else happens (30_encoding.md R151). -/
def progUndefC72 (_rm : RM16) (_imm : Word) (c : Cpu) : Prog := .retire c

/-- `undefined__C7__2` as a Level A step. -/
def execUndefC72 (rm : RM16) (imm : Word) (s : State) : Host.Outcome State Fault Refusal := commit (progUndefC72 rm imm) s

/-- An undefined encoding: its bytes are consumed and nothing else happens (30_encoding.md R151). -/
def progUndefC73 (_rm : RM16) (_imm : Word) (c : Cpu) : Prog := .retire c

/-- `undefined__C7__3` as a Level A step. -/
def execUndefC73 (rm : RM16) (imm : Word) (s : State) : Host.Outcome State Fault Refusal := commit (progUndefC73 rm imm) s

/-- An undefined encoding: its bytes are consumed and nothing else happens (30_encoding.md R151). -/
def progUndefC74 (_rm : RM16) (_imm : Word) (c : Cpu) : Prog := .retire c

/-- `undefined__C7__4` as a Level A step. -/
def execUndefC74 (rm : RM16) (imm : Word) (s : State) : Host.Outcome State Fault Refusal := commit (progUndefC74 rm imm) s

/-- An undefined encoding: its bytes are consumed and nothing else happens (30_encoding.md R151). -/
def progUndefC75 (_rm : RM16) (_imm : Word) (c : Cpu) : Prog := .retire c

/-- `undefined__C7__5` as a Level A step. -/
def execUndefC75 (rm : RM16) (imm : Word) (s : State) : Host.Outcome State Fault Refusal := commit (progUndefC75 rm imm) s

/-- An undefined encoding: its bytes are consumed and nothing else happens (30_encoding.md R151). -/
def progUndefC76 (_rm : RM16) (_imm : Word) (c : Cpu) : Prog := .retire c

/-- `undefined__C7__6` as a Level A step. -/
def execUndefC76 (rm : RM16) (imm : Word) (s : State) : Host.Outcome State Fault Refusal := commit (progUndefC76 rm imm) s

/-- An undefined encoding: its bytes are consumed and nothing else happens (30_encoding.md R151). -/
def progUndefC77 (_rm : RM16) (_imm : Word) (c : Cpu) : Prog := .retire c

/-- `undefined__C7__7` as a Level A step. -/
def execUndefC77 (rm : RM16) (imm : Word) (s : State) : Host.Outcome State Fault Refusal := commit (progUndefC77 rm imm) s

/-- An undefined encoding: its bytes are consumed and nothing else happens (30_encoding.md R151, 42_logic_shift.md R257). -/
def progUndefD06 (_rm : RM8) (c : Cpu) : Prog := .retire c

/-- `undefined__D0__6` as a Level A step. -/
def execUndefD06 (rm : RM8) (s : State) : Host.Outcome State Fault Refusal := commit (progUndefD06 rm) s

/-- An undefined encoding: its bytes are consumed and nothing else happens (30_encoding.md R151, 42_logic_shift.md R257). -/
def progUndefD16 (_rm : RM16) (c : Cpu) : Prog := .retire c

/-- `undefined__D1__6` as a Level A step. -/
def execUndefD16 (rm : RM16) (s : State) : Host.Outcome State Fault Refusal := commit (progUndefD16 rm) s

/-- An undefined encoding: its bytes are consumed and nothing else happens (30_encoding.md R151, 42_logic_shift.md R257). -/
def progUndefD26 (_rm : RM8) (c : Cpu) : Prog := .retire c

/-- `undefined__D2__6` as a Level A step. -/
def execUndefD26 (rm : RM8) (s : State) : Host.Outcome State Fault Refusal := commit (progUndefD26 rm) s

/-- An undefined encoding: its bytes are consumed and nothing else happens (30_encoding.md R151, 42_logic_shift.md R257). -/
def progUndefD36 (_rm : RM16) (c : Cpu) : Prog := .retire c

/-- `undefined__D3__6` as a Level A step. -/
def execUndefD36 (rm : RM16) (s : State) : Host.Outcome State Fault Refusal := commit (progUndefD36 rm) s

/-- An undefined encoding: its bytes are consumed and nothing else happens (30_encoding.md R151). -/
def progUndefFE2 (_rm : RM8) (c : Cpu) : Prog := .retire c

/-- `undefined__FE__2` as a Level A step. -/
def execUndefFE2 (rm : RM8) (s : State) : Host.Outcome State Fault Refusal := commit (progUndefFE2 rm) s

/-- An undefined encoding: its bytes are consumed and nothing else happens (30_encoding.md R151). -/
def progUndefFE3 (_rm : RM8) (c : Cpu) : Prog := .retire c

/-- `undefined__FE__3` as a Level A step. -/
def execUndefFE3 (rm : RM8) (s : State) : Host.Outcome State Fault Refusal := commit (progUndefFE3 rm) s

/-- An undefined encoding: its bytes are consumed and nothing else happens (30_encoding.md R151). -/
def progUndefFE4 (_rm : RM8) (c : Cpu) : Prog := .retire c

/-- `undefined__FE__4` as a Level A step. -/
def execUndefFE4 (rm : RM8) (s : State) : Host.Outcome State Fault Refusal := commit (progUndefFE4 rm) s

/-- An undefined encoding: its bytes are consumed and nothing else happens (30_encoding.md R151). -/
def progUndefFE5 (_rm : RM8) (c : Cpu) : Prog := .retire c

/-- `undefined__FE__5` as a Level A step. -/
def execUndefFE5 (rm : RM8) (s : State) : Host.Outcome State Fault Refusal := commit (progUndefFE5 rm) s

/-- An undefined encoding: its bytes are consumed and nothing else happens (30_encoding.md R151). -/
def progUndefFE6 (_rm : RM8) (c : Cpu) : Prog := .retire c

/-- `undefined__FE__6` as a Level A step. -/
def execUndefFE6 (rm : RM8) (s : State) : Host.Outcome State Fault Refusal := commit (progUndefFE6 rm) s

/-- An undefined encoding: its bytes are consumed and nothing else happens (30_encoding.md R151). -/
def progUndefFE7 (_rm : RM8) (c : Cpu) : Prog := .retire c

/-- `undefined__FE__7` as a Level A step. -/
def execUndefFE7 (rm : RM8) (s : State) : Host.Outcome State Fault Refusal := commit (progUndefFE7 rm) s

/-- An undefined encoding: its bytes are consumed and nothing else happens (30_encoding.md R151). -/
def progUndefFF3 (_r : Reg16) (c : Cpu) : Prog := .retire c

/-- `undefined__FF__3_with_mod_3` as a Level A step. -/
def execUndefFF3 (r : Reg16) (s : State) : Host.Outcome State Fault Refusal := commit (progUndefFF3 r) s

/-- An undefined encoding: its bytes are consumed and nothing else happens (30_encoding.md R151). -/
def progUndefFF5 (_r : Reg16) (c : Cpu) : Prog := .retire c

/-- `undefined__FF__5_with_mod_3` as a Level A step. -/
def execUndefFF5 (r : Reg16) (s : State) : Host.Outcome State Fault Refusal := commit (progUndefFF5 r) s

/-- An undefined encoding: its bytes are consumed and nothing else happens (30_encoding.md R151). -/
def progUndefFF7 (_rm : RM16) (c : Cpu) : Prog := .retire c

/-- `undefined__FF__7` as a Level A step. -/
def execUndefFF7 (rm : RM16) (s : State) : Host.Outcome State Fault Refusal := commit (progUndefFF7 rm) s

end Sys2Proof.Machine
end

