-- ==== Sys2Proof/Machine/Dispatch.lean ====
section
/-!
DEFINITION. The dispatch: one arm per constructor of `Instr`, each one call of that instruction's meaning.
-/
namespace Sys2Proof.Machine

/-- What an instruction does to a state whose IP is already past it (00_scope.md R6, Level A). -/
def exec (i : Instr) (s : State) : Host.Outcome State Fault Refusal :=
  match i with
  | .addEbGb rm reg => Sys2Proof.Machine.execAddEbGb rm reg s
  | .addEvGv rm reg => Sys2Proof.Machine.execAddEvGv rm reg s
  | .addGbEb reg rm => Sys2Proof.Machine.execAddGbEb reg rm s
  | .addGvEv reg rm => Sys2Proof.Machine.execAddGvEv reg rm s
  | .addALIb imm => Sys2Proof.Machine.execAddALIb imm s
  | .addAXIv imm => Sys2Proof.Machine.execAddAXIv imm s
  | .orEbGb rm reg => Sys2Proof.Machine.execOrEbGb rm reg s
  | .orEvGv rm reg => Sys2Proof.Machine.execOrEvGv rm reg s
  | .orGbEb reg rm => Sys2Proof.Machine.execOrGbEb reg rm s
  | .orGvEv reg rm => Sys2Proof.Machine.execOrGvEv reg rm s
  | .orALIb imm => Sys2Proof.Machine.execOrALIb imm s
  | .orAXIv imm => Sys2Proof.Machine.execOrAXIv imm s
  | .adcEbGb rm reg => Sys2Proof.Machine.execAdcEbGb rm reg s
  | .adcEvGv rm reg => Sys2Proof.Machine.execAdcEvGv rm reg s
  | .adcGbEb reg rm => Sys2Proof.Machine.execAdcGbEb reg rm s
  | .adcGvEv reg rm => Sys2Proof.Machine.execAdcGvEv reg rm s
  | .adcALIb imm => Sys2Proof.Machine.execAdcALIb imm s
  | .adcAXIv imm => Sys2Proof.Machine.execAdcAXIv imm s
  | .sbbEbGb rm reg => Sys2Proof.Machine.execSbbEbGb rm reg s
  | .sbbEvGv rm reg => Sys2Proof.Machine.execSbbEvGv rm reg s
  | .sbbGbEb reg rm => Sys2Proof.Machine.execSbbGbEb reg rm s
  | .sbbGvEv reg rm => Sys2Proof.Machine.execSbbGvEv reg rm s
  | .sbbALIb imm => Sys2Proof.Machine.execSbbALIb imm s
  | .sbbAXIv imm => Sys2Proof.Machine.execSbbAXIv imm s
  | .andEbGb rm reg => Sys2Proof.Machine.execAndEbGb rm reg s
  | .andEvGv rm reg => Sys2Proof.Machine.execAndEvGv rm reg s
  | .andGbEb reg rm => Sys2Proof.Machine.execAndGbEb reg rm s
  | .andGvEv reg rm => Sys2Proof.Machine.execAndGvEv reg rm s
  | .andALIb imm => Sys2Proof.Machine.execAndALIb imm s
  | .andAXIv imm => Sys2Proof.Machine.execAndAXIv imm s
  | .subEbGb rm reg => Sys2Proof.Machine.execSubEbGb rm reg s
  | .subEvGv rm reg => Sys2Proof.Machine.execSubEvGv rm reg s
  | .subGbEb reg rm => Sys2Proof.Machine.execSubGbEb reg rm s
  | .subGvEv reg rm => Sys2Proof.Machine.execSubGvEv reg rm s
  | .subALIb imm => Sys2Proof.Machine.execSubALIb imm s
  | .subAXIv imm => Sys2Proof.Machine.execSubAXIv imm s
  | .xorEbGb rm reg => Sys2Proof.Machine.execXorEbGb rm reg s
  | .xorEvGv rm reg => Sys2Proof.Machine.execXorEvGv rm reg s
  | .xorGbEb reg rm => Sys2Proof.Machine.execXorGbEb reg rm s
  | .xorGvEv reg rm => Sys2Proof.Machine.execXorGvEv reg rm s
  | .xorALIb imm => Sys2Proof.Machine.execXorALIb imm s
  | .xorAXIv imm => Sys2Proof.Machine.execXorAXIv imm s
  | .cmpEbGb rm reg => Sys2Proof.Machine.execCmpEbGb rm reg s
  | .cmpEvGv rm reg => Sys2Proof.Machine.execCmpEvGv rm reg s
  | .cmpGbEb reg rm => Sys2Proof.Machine.execCmpGbEb reg rm s
  | .cmpGvEv reg rm => Sys2Proof.Machine.execCmpGvEv reg rm s
  | .cmpALIb imm => Sys2Proof.Machine.execCmpALIb imm s
  | .cmpAXIv imm => Sys2Proof.Machine.execCmpAXIv imm s
  | .incReg16 r => Sys2Proof.Machine.execIncReg16 r s
  | .decReg16 r => Sys2Proof.Machine.execDecReg16 r s
  | .pushReg16 r => Sys2Proof.Machine.execPushReg16 r s
  | .popReg16 r => Sys2Proof.Machine.execPopReg16 r s
  | .jcc60 cc disp => Sys2Proof.Machine.execJcc60 cc disp s
  | .jcc cc disp => Sys2Proof.Machine.execJcc cc disp s
  | .addEbIb rm imm => Sys2Proof.Machine.execAddEbIb rm imm s
  | .orEbIb rm imm => Sys2Proof.Machine.execOrEbIb rm imm s
  | .adcEbIb rm imm => Sys2Proof.Machine.execAdcEbIb rm imm s
  | .sbbEbIb rm imm => Sys2Proof.Machine.execSbbEbIb rm imm s
  | .andEbIb rm imm => Sys2Proof.Machine.execAndEbIb rm imm s
  | .subEbIb rm imm => Sys2Proof.Machine.execSubEbIb rm imm s
  | .xorEbIb rm imm => Sys2Proof.Machine.execXorEbIb rm imm s
  | .cmpEbIb rm imm => Sys2Proof.Machine.execCmpEbIb rm imm s
  | .addEvIv rm imm => Sys2Proof.Machine.execAddEvIv rm imm s
  | .orEvIv rm imm => Sys2Proof.Machine.execOrEvIv rm imm s
  | .adcEvIv rm imm => Sys2Proof.Machine.execAdcEvIv rm imm s
  | .sbbEvIv rm imm => Sys2Proof.Machine.execSbbEvIv rm imm s
  | .andEvIv rm imm => Sys2Proof.Machine.execAndEvIv rm imm s
  | .subEvIv rm imm => Sys2Proof.Machine.execSubEvIv rm imm s
  | .xorEvIv rm imm => Sys2Proof.Machine.execXorEvIv rm imm s
  | .cmpEvIv rm imm => Sys2Proof.Machine.execCmpEvIv rm imm s
  | .addEbIb82 rm imm => Sys2Proof.Machine.execAddEbIb82 rm imm s
  | .orEbIb82 rm imm => Sys2Proof.Machine.execOrEbIb82 rm imm s
  | .adcEbIb82 rm imm => Sys2Proof.Machine.execAdcEbIb82 rm imm s
  | .sbbEbIb82 rm imm => Sys2Proof.Machine.execSbbEbIb82 rm imm s
  | .andEbIb82 rm imm => Sys2Proof.Machine.execAndEbIb82 rm imm s
  | .subEbIb82 rm imm => Sys2Proof.Machine.execSubEbIb82 rm imm s
  | .xorEbIb82 rm imm => Sys2Proof.Machine.execXorEbIb82 rm imm s
  | .cmpEbIb82 rm imm => Sys2Proof.Machine.execCmpEbIb82 rm imm s
  | .addEvIbs rm imm => Sys2Proof.Machine.execAddEvIbs rm imm s
  | .orEvIbs rm imm => Sys2Proof.Machine.execOrEvIbs rm imm s
  | .adcEvIbs rm imm => Sys2Proof.Machine.execAdcEvIbs rm imm s
  | .sbbEvIbs rm imm => Sys2Proof.Machine.execSbbEvIbs rm imm s
  | .andEvIbs rm imm => Sys2Proof.Machine.execAndEvIbs rm imm s
  | .subEvIbs rm imm => Sys2Proof.Machine.execSubEvIbs rm imm s
  | .xorEvIbs rm imm => Sys2Proof.Machine.execXorEvIbs rm imm s
  | .cmpEvIbs rm imm => Sys2Proof.Machine.execCmpEvIbs rm imm s
  | .testEbGb rm reg => Sys2Proof.Machine.execTestEbGb rm reg s
  | .testEvGv rm reg => Sys2Proof.Machine.execTestEvGv rm reg s
  | .xchgEbGb rm reg => Sys2Proof.Machine.execXchgEbGb rm reg s
  | .xchgEvGv rm reg => Sys2Proof.Machine.execXchgEvGv rm reg s
  | .movEbGb rm reg => Sys2Proof.Machine.execMovEbGb rm reg s
  | .movEvGv rm reg => Sys2Proof.Machine.execMovEvGv rm reg s
  | .movGbEb reg rm => Sys2Proof.Machine.execMovGbEb reg rm s
  | .movGvEv reg rm => Sys2Proof.Machine.execMovGvEv reg rm s
  | .movEwSw rm sr => Sys2Proof.Machine.execMovEwSw rm sr s
  | .movEwSwHi rm sr => Sys2Proof.Machine.execMovEwSwHi rm sr s
  | .lea reg m => Sys2Proof.Machine.execLea reg m s
  | .undefLea reg rm => Sys2Proof.Machine.execUndefLea reg rm s
  | .movSwEw sr rm => Sys2Proof.Machine.execMovSwEw sr rm s
  | .movSwEwHi sr rm => Sys2Proof.Machine.execMovSwEwHi sr rm s
  | .popEv rm => Sys2Proof.Machine.execPopEv rm s
  | .undef8F1 rm => Sys2Proof.Machine.execUndef8F1 rm s
  | .undef8F2 rm => Sys2Proof.Machine.execUndef8F2 rm s
  | .undef8F3 rm => Sys2Proof.Machine.execUndef8F3 rm s
  | .undef8F4 rm => Sys2Proof.Machine.execUndef8F4 rm s
  | .undef8F5 rm => Sys2Proof.Machine.execUndef8F5 rm s
  | .undef8F6 rm => Sys2Proof.Machine.execUndef8F6 rm s
  | .undef8F7 rm => Sys2Proof.Machine.execUndef8F7 rm s
  | .callAp off seg => Sys2Proof.Machine.execCallAp off seg s
  | .movALOb off => Sys2Proof.Machine.execMovALOb off s
  | .movAXOv off => Sys2Proof.Machine.execMovAXOv off s
  | .movObAL off => Sys2Proof.Machine.execMovObAL off s
  | .movOvAX off => Sys2Proof.Machine.execMovOvAX off s
  | .testALIb imm => Sys2Proof.Machine.execTestALIb imm s
  | .testAXIv imm => Sys2Proof.Machine.execTestAXIv imm s
  | .movReg8Ib r imm => Sys2Proof.Machine.execMovReg8Ib r imm s
  | .movReg16Iv r imm => Sys2Proof.Machine.execMovReg16Iv r imm s
  | .retIwC0 imm => Sys2Proof.Machine.execRetIwC0 imm s
  | .retIw imm => Sys2Proof.Machine.execRetIw imm s
  | .les reg m => Sys2Proof.Machine.execLes reg m s
  | .undefLes reg rm => Sys2Proof.Machine.execUndefLes reg rm s
  | .lds reg m => Sys2Proof.Machine.execLds reg m s
  | .undefLds reg rm => Sys2Proof.Machine.execUndefLds reg rm s
  | .movEbIb rm imm => Sys2Proof.Machine.execMovEbIb rm imm s
  | .undefC61 rm imm => Sys2Proof.Machine.execUndefC61 rm imm s
  | .undefC62 rm imm => Sys2Proof.Machine.execUndefC62 rm imm s
  | .undefC63 rm imm => Sys2Proof.Machine.execUndefC63 rm imm s
  | .undefC64 rm imm => Sys2Proof.Machine.execUndefC64 rm imm s
  | .undefC65 rm imm => Sys2Proof.Machine.execUndefC65 rm imm s
  | .undefC66 rm imm => Sys2Proof.Machine.execUndefC66 rm imm s
  | .undefC67 rm imm => Sys2Proof.Machine.execUndefC67 rm imm s
  | .movEvIv rm imm => Sys2Proof.Machine.execMovEvIv rm imm s
  | .undefC71 rm imm => Sys2Proof.Machine.execUndefC71 rm imm s
  | .undefC72 rm imm => Sys2Proof.Machine.execUndefC72 rm imm s
  | .undefC73 rm imm => Sys2Proof.Machine.execUndefC73 rm imm s
  | .undefC74 rm imm => Sys2Proof.Machine.execUndefC74 rm imm s
  | .undefC75 rm imm => Sys2Proof.Machine.execUndefC75 rm imm s
  | .undefC76 rm imm => Sys2Proof.Machine.execUndefC76 rm imm s
  | .undefC77 rm imm => Sys2Proof.Machine.execUndefC77 rm imm s
  | .retfIwC8 imm => Sys2Proof.Machine.execRetfIwC8 imm s
  | .retfIw imm => Sys2Proof.Machine.execRetfIw imm s
  | .intIb imm => Sys2Proof.Machine.execIntIb imm s
  | .rolEb1 rm => Sys2Proof.Machine.execRolEb1 rm s
  | .rorEb1 rm => Sys2Proof.Machine.execRorEb1 rm s
  | .rclEb1 rm => Sys2Proof.Machine.execRclEb1 rm s
  | .rcrEb1 rm => Sys2Proof.Machine.execRcrEb1 rm s
  | .shlEb1 rm => Sys2Proof.Machine.execShlEb1 rm s
  | .shrEb1 rm => Sys2Proof.Machine.execShrEb1 rm s
  | .undefD06 rm => Sys2Proof.Machine.execUndefD06 rm s
  | .sarEb1 rm => Sys2Proof.Machine.execSarEb1 rm s
  | .rolEv1 rm => Sys2Proof.Machine.execRolEv1 rm s
  | .rorEv1 rm => Sys2Proof.Machine.execRorEv1 rm s
  | .rclEv1 rm => Sys2Proof.Machine.execRclEv1 rm s
  | .rcrEv1 rm => Sys2Proof.Machine.execRcrEv1 rm s
  | .shlEv1 rm => Sys2Proof.Machine.execShlEv1 rm s
  | .shrEv1 rm => Sys2Proof.Machine.execShrEv1 rm s
  | .undefD16 rm => Sys2Proof.Machine.execUndefD16 rm s
  | .sarEv1 rm => Sys2Proof.Machine.execSarEv1 rm s
  | .rolEbCL rm => Sys2Proof.Machine.execRolEbCL rm s
  | .rorEbCL rm => Sys2Proof.Machine.execRorEbCL rm s
  | .rclEbCL rm => Sys2Proof.Machine.execRclEbCL rm s
  | .rcrEbCL rm => Sys2Proof.Machine.execRcrEbCL rm s
  | .shlEbCL rm => Sys2Proof.Machine.execShlEbCL rm s
  | .shrEbCL rm => Sys2Proof.Machine.execShrEbCL rm s
  | .undefD26 rm => Sys2Proof.Machine.execUndefD26 rm s
  | .sarEbCL rm => Sys2Proof.Machine.execSarEbCL rm s
  | .rolEvCL rm => Sys2Proof.Machine.execRolEvCL rm s
  | .rorEvCL rm => Sys2Proof.Machine.execRorEvCL rm s
  | .rclEvCL rm => Sys2Proof.Machine.execRclEvCL rm s
  | .rcrEvCL rm => Sys2Proof.Machine.execRcrEvCL rm s
  | .shlEvCL rm => Sys2Proof.Machine.execShlEvCL rm s
  | .shrEvCL rm => Sys2Proof.Machine.execShrEvCL rm s
  | .undefD36 rm => Sys2Proof.Machine.execUndefD36 rm s
  | .sarEvCL rm => Sys2Proof.Machine.execSarEvCL rm s
  | .aam imm => Sys2Proof.Machine.execAam imm s
  | .aad imm => Sys2Proof.Machine.execAad imm s
  | .esc op reg rm => Sys2Proof.Machine.execEsc op reg rm s
  | .loopne disp => Sys2Proof.Machine.execLoopne disp s
  | .loope disp => Sys2Proof.Machine.execLoope disp s
  | .loop disp => Sys2Proof.Machine.execLoop disp s
  | .jcxz disp => Sys2Proof.Machine.execJcxz disp s
  | .inALIb imm => Sys2Proof.Machine.execInALIb imm s
  | .inAXIb imm => Sys2Proof.Machine.execInAXIb imm s
  | .outIbAL imm => Sys2Proof.Machine.execOutIbAL imm s
  | .outIbAX imm => Sys2Proof.Machine.execOutIbAX imm s
  | .callJv disp => Sys2Proof.Machine.execCallJv disp s
  | .jmpJv disp => Sys2Proof.Machine.execJmpJv disp s
  | .jmpAp off seg => Sys2Proof.Machine.execJmpAp off seg s
  | .jmpJb disp => Sys2Proof.Machine.execJmpJb disp s
  | .testEbIb rm imm => Sys2Proof.Machine.execTestEbIb rm imm s
  | .testEbIb1 rm imm => Sys2Proof.Machine.execTestEbIb1 rm imm s
  | .notEb rm => Sys2Proof.Machine.execNotEb rm s
  | .negEb rm => Sys2Proof.Machine.execNegEb rm s
  | .mulEb rm => Sys2Proof.Machine.execMulEb rm s
  | .imulEb rm => Sys2Proof.Machine.execImulEb rm s
  | .divEb rm => Sys2Proof.Machine.execDivEb rm s
  | .idivEb rm => Sys2Proof.Machine.execIdivEb rm s
  | .testEvIv rm imm => Sys2Proof.Machine.execTestEvIv rm imm s
  | .testEvIv1 rm imm => Sys2Proof.Machine.execTestEvIv1 rm imm s
  | .notEv rm => Sys2Proof.Machine.execNotEv rm s
  | .negEv rm => Sys2Proof.Machine.execNegEv rm s
  | .mulEv rm => Sys2Proof.Machine.execMulEv rm s
  | .imulEv rm => Sys2Proof.Machine.execImulEv rm s
  | .divEv rm => Sys2Proof.Machine.execDivEv rm s
  | .idivEv rm => Sys2Proof.Machine.execIdivEv rm s
  | .incEb rm => Sys2Proof.Machine.execIncEb rm s
  | .decEb rm => Sys2Proof.Machine.execDecEb rm s
  | .undefFE2 rm => Sys2Proof.Machine.execUndefFE2 rm s
  | .undefFE3 rm => Sys2Proof.Machine.execUndefFE3 rm s
  | .undefFE4 rm => Sys2Proof.Machine.execUndefFE4 rm s
  | .undefFE5 rm => Sys2Proof.Machine.execUndefFE5 rm s
  | .undefFE6 rm => Sys2Proof.Machine.execUndefFE6 rm s
  | .undefFE7 rm => Sys2Proof.Machine.execUndefFE7 rm s
  | .incEv rm => Sys2Proof.Machine.execIncEv rm s
  | .decEv rm => Sys2Proof.Machine.execDecEv rm s
  | .callEv rm => Sys2Proof.Machine.execCallEv rm s
  | .callMp m => Sys2Proof.Machine.execCallMp m s
  | .undefFF3 r => Sys2Proof.Machine.execUndefFF3 r s
  | .jmpEv rm => Sys2Proof.Machine.execJmpEv rm s
  | .jmpMp m => Sys2Proof.Machine.execJmpMp m s
  | .undefFF5 r => Sys2Proof.Machine.execUndefFF5 r s
  | .pushEv rm => Sys2Proof.Machine.execPushEv rm s
  | .undefFF7 rm => Sys2Proof.Machine.execUndefFF7 rm s
  | .pushES => Sys2Proof.Machine.execPushES s
  | .popES => Sys2Proof.Machine.execPopES s
  | .segES => Sys2Proof.Machine.execSegES s
  | .pushCS => Sys2Proof.Machine.execPushCS s
  | .popCS => Sys2Proof.Machine.execPopCS s
  | .segCS => Sys2Proof.Machine.execSegCS s
  | .pushSS => Sys2Proof.Machine.execPushSS s
  | .popSS => Sys2Proof.Machine.execPopSS s
  | .segSS => Sys2Proof.Machine.execSegSS s
  | .pushDS => Sys2Proof.Machine.execPushDS s
  | .popDS => Sys2Proof.Machine.execPopDS s
  | .segDS => Sys2Proof.Machine.execSegDS s
  | .daa => Sys2Proof.Machine.execDaa s
  | .das => Sys2Proof.Machine.execDas s
  | .aaa => Sys2Proof.Machine.execAaa s
  | .aas => Sys2Proof.Machine.execAas s
  | .nop => Sys2Proof.Machine.execNop s
  | .xchgAXCX => Sys2Proof.Machine.execXchgAXCX s
  | .xchgAXDX => Sys2Proof.Machine.execXchgAXDX s
  | .xchgAXBX => Sys2Proof.Machine.execXchgAXBX s
  | .xchgAXSP => Sys2Proof.Machine.execXchgAXSP s
  | .xchgAXBP => Sys2Proof.Machine.execXchgAXBP s
  | .xchgAXSI => Sys2Proof.Machine.execXchgAXSI s
  | .xchgAXDI => Sys2Proof.Machine.execXchgAXDI s
  | .cbw => Sys2Proof.Machine.execCbw s
  | .cwd => Sys2Proof.Machine.execCwd s
  | .wait => Sys2Proof.Machine.execWait s
  | .pushf => Sys2Proof.Machine.execPushf s
  | .popf => Sys2Proof.Machine.execPopf s
  | .sahf => Sys2Proof.Machine.execSahf s
  | .lahf => Sys2Proof.Machine.execLahf s
  | .movsb => Sys2Proof.Machine.execMovsb s
  | .movsw => Sys2Proof.Machine.execMovsw s
  | .cmpsb => Sys2Proof.Machine.execCmpsb s
  | .cmpsw => Sys2Proof.Machine.execCmpsw s
  | .stosb => Sys2Proof.Machine.execStosb s
  | .stosw => Sys2Proof.Machine.execStosw s
  | .lodsb => Sys2Proof.Machine.execLodsb s
  | .lodsw => Sys2Proof.Machine.execLodsw s
  | .scasb => Sys2Proof.Machine.execScasb s
  | .scasw => Sys2Proof.Machine.execScasw s
  | .retC1 => Sys2Proof.Machine.execRetC1 s
  | .ret => Sys2Proof.Machine.execRet s
  | .retfC9 => Sys2Proof.Machine.execRetfC9 s
  | .retf => Sys2Proof.Machine.execRetf s
  | .int3 => Sys2Proof.Machine.execInt3 s
  | .into => Sys2Proof.Machine.execInto s
  | .iret => Sys2Proof.Machine.execIret s
  | .salc => Sys2Proof.Machine.execSalc s
  | .xlat => Sys2Proof.Machine.execXlat s
  | .inALDX => Sys2Proof.Machine.execInALDX s
  | .inAXDX => Sys2Proof.Machine.execInAXDX s
  | .outDXAL => Sys2Proof.Machine.execOutDXAL s
  | .outDXAX => Sys2Proof.Machine.execOutDXAX s
  | .lock => Sys2Proof.Machine.execLock s
  | .lockF1 => Sys2Proof.Machine.execLockF1 s
  | .repne => Sys2Proof.Machine.execRepne s
  | .rep => Sys2Proof.Machine.execRep s
  | .hlt => Sys2Proof.Machine.execHlt s
  | .cmc => Sys2Proof.Machine.execCmc s
  | .clc => Sys2Proof.Machine.execClc s
  | .stc => Sys2Proof.Machine.execStc s
  | .cli => Sys2Proof.Machine.execCli s
  | .sti => Sys2Proof.Machine.execSti s
  | .cld => Sys2Proof.Machine.execCld s
  | .std => Sys2Proof.Machine.execStd s

end Sys2Proof.Machine
end

