-- ==== Sys2Proof/Machine/Sample.lean ====
section
/-!
DEFINITION. Sampling for interrupts: what is recognised at a sampling point, the entry it leads to, and how execution goes on
when nothing is recognised (60_exceptions.md R440, R441, R445, R446).
-/
namespace Sys2Proof.Machine

/-- Between a mark and the byte after it, which is no sampling point (60_exceptions.md R446). -/
def Cpu.midUnit (c : Cpu) : Bool :=
  !(c.repActive.isSome || c.waiting) && (c.segOverride.isSome || c.repMark.isSome || c.lockMark)

/-- A WAIT in progress whose TEST line has become true: it completes before interrupts are sampled again
(45_processor_control.md R342; 60_exceptions.md R446 (d)). -/
def State.waitPasses (s : State) : Bool := s.cpu.waiting && s.lines.test

/-- The edge detector of the NMI pin, every tick (60_exceptions.md R440). -/
def Nmi.sample (n : Nmi) (line : Bool) : Nmi := { latch := n.latch || (line && !n.prev), prev := line }

/-- What is recognised before execution goes on (60_exceptions.md R445, R446): nothing where a WAIT is about to complete, which
is no sampling point; a single-step entry left over from this same point; nothing after a segment register load; else NMI, a
maskable request, a single step, in this order.
At Level A a sampling point lies between two ticks, and the NMI pin is examined at it as the next tick would at its start, so an
edge and a request that came in one tick meet in this order there too (DESIGN CHOICE, log entry 37). -/
def State.choose (s : State) : Option EntryKind :=
  if s.waitPasses then none
  else if s.cpu.stepPending then some .step
  else if s.cpu.inhibit = .all then none
  else if (s.nmi.sample s.lines.nmi).latch then some .nmi
  else if s.lines.intr && s.cpu.flags.ifl && decide (s.cpu.inhibit ≠ .maskable) then some .maskable
  else if s.cpu.tfAtStart then some .step
  else none

/-- The offset an entry at a sampling point saves: of the next instruction; of the byte before the opcode when a repeated
string instruction is interrupted; of the WAIT itself (60_exceptions.md R446, 43_string.md R276, 45_processor_control.md R342).
Of a WAIT with marks before it this is the byte 9B, so the marks are not executed again (DESIGN CHOICE, log entry 39). -/
def Cpu.returnIp (c : Cpu) : Word :=
  match c.repActive with
  | some r => r.resume
  | none => if c.waiting then c.ip - 1 else c.ip

/-- The CPU as an entry begins: the inhibition is spent, and a single step recognised at the same point is still to be taken
after an NMI or maskable entry (60_exceptions.md R445, R446).
IP stays, and with it the offset of the next code fetch; the entry saves `returnIp` (50_pipeline_bus_timing.md R376). -/
def Cpu.atEntry (c : Cpu) (k : EntryKind) : Cpu :=
  { c with
    repActive := none, waiting := false, segOverride := none, repMark := none, lockMark := false
    prefixes := []
    inhibit := .none, tfAtStart := false, stepPending := decide (k ≠ .step) && c.tfAtStart }

/-- The state as an entry begins: NMI leaves its latch, with the edge it was recognised by examined (60_exceptions.md R440). -/
def State.beginEntry (s : State) (k : EntryKind) : State :=
  { s with cpu := s.cpu.atEntry k, nmi := if k = .nmi then { latch := false, prev := s.lines.nmi } else s.nmi }

/-- The program of an entry that saves the offset `ip`: vector 2, the vector the interrupt controller gives, or vector 1
(60_exceptions.md R436). -/
def entryProg (k : EntryKind) (ip : Word) (c : Cpu) : Prog :=
  match k with
  | .nmi => enter 2 ip c
  | .maskable => .bus .inta fun _ => .bus .inta fun n => enter n ip c
  | .step => enter 1 ip c

/-- Nothing was recognised: the inhibition is spent, and TF is noted for what begins now (60_exceptions.md R441, R446). -/
def State.goOn (s : State) : State :=
  { s with cpu := { s.cpu with inhibit := .none, tfAtStart := !s.cpu.halted && s.cpu.flags.tf } }

/-- The NMI pin examined, as at the start of every tick (60_exceptions.md R440). -/
def State.sampleNmi (s : State) : State := { s with nmi := s.nmi.sample s.lines.nmi }

end Sys2Proof.Machine
end

