-- ==== Sys2Proof/Machine/Fetch.lean ====
section
/-!
DEFINITION. Fetching an instruction at Level A: the bytes of the queue come first, then those of memory
(30_encoding.md R121; 20_memory.md R102, R108; 50_pipeline_bus_timing.md R376).
-/
namespace Sys2Proof.Machine

/-- `PFP`, the offset of the next code byte to be fetched, as IP and the queue give it (50_pipeline_bus_timing.md R376). -/
def State.pfp (s : State) : Word := s.cpu.ip + BitVec.ofNat 16 s.biu.q.length

/-- The bytes that code fetches at successive offsets in CS would answer. -/
def State.codeBytes (s : State) (off : Word) : (count : Nat) → List Byte
  | 0 => []
  | k + 1 =>
    let (b, t) := s.physRead (phys s.cpu.cs off)
    b :: t.codeBytes (off + 1) k

/-- The bytes the execution unit would get next: the queue's, which may be stale, then memory's (20_memory.md R108). -/
def State.window (s : State) : List Byte := s.biu.q ++ s.codeBytes s.pfp (longestInstr - s.biu.q.length)

/-- Code fetches of Level A at successive offsets (20_memory.md R94). -/
def State.fetchCode (s : State) (off : Word) : (count : Nat) → State
  | 0 => s
  | k + 1 => ((s.perform (.code (phys s.cpu.cs off))).2).fetchCode (off + 1) k

/-- The byte of a code fetch in progress will be dropped. -/
def Biu.dropFetch (b : Biu) : Biu :=
  { b with cur := b.cur.map fun x => if x.req.cycle = .code then { x with discard := true } else x }

/-- Consume bytes of the instruction stream: from the queue, then by code fetches, past which the fetch in progress comes
too late (30_encoding.md R121). -/
def State.consume (s : State) (n : Nat) : State :=
  let late := n - s.biu.q.length
  let t := s.fetchCode s.pfp late
  { t with
    cpu := { t.cpu with ip := t.cpu.ip + BitVec.ofNat 16 n }
    biu := if late = 0 then { t.biu with q := t.biu.q.drop n } else { t.biu with q := [] }.dropFetch }

/-! ## The bytes that follow a store into them, or a load of CS (20_memory.md R108; 40_data_transfer.md R171, R176) -/

/-- The addresses the CPU stored to between two states of one step. -/
def State.storedSince (before after : State) : List Addr :=
  (after.biu.trace.drop before.biu.trace.length).filterMap fun r => if r.cycle = .memW then r.addr else none

/-- The address of the byte `j` places after the last one taken. -/
def State.aheadAddr (s : State) (j : Nat) : Addr := phys s.cpu.cs (s.cpu.ip + BitVec.ofNat 16 j)

/-- An instruction that began in `s`, its bytes taken, stored to the byte `j` places after its last one, which is one of the
`QUEUE_SIZE` bytes that follow.
A byte that a handler of the host answers is not counted: a queued one stays as it was fetched, and another is the handler's
answer when it is fetched (DESIGN CHOICE, log entry 23). -/
def State.storesAhead (s after : State) (j : Nat) : Bool :=
  decide (j < Config.queueSize ∧ backing s.params.ramSize (s.aheadAddr j) ≠ .rom) &&
    (s.storedSince after).any fun b => decide (cellKey b = cellKey (s.aheadAddr j))

/-- At Level A the byte `j` places after the instruction is not determined: the instruction stored to it (20_memory.md R108), or
it loaded CS and the byte is one of the next `QUEUE_SIZE` (40_data_transfer.md R171, R176). -/
def State.unsettled (s after : State) (j : Nat) : Bool :=
  s.storesAhead after j || decide (j < Config.queueSize ∧ after.cpu.cs ≠ s.cpu.cs)

/-- How many of the `QUEUE_SIZE` bytes after an instruction reach to the last one that is not determined. -/
def State.aheadDepth (s after : State) : Nat :=
  (((List.range Config.queueSize).filter (s.unsettled after)).getLast?.map (· + 1)).getD 0

/-- The byte `j` places after the instruction, and the state `t` with the code fetch it takes.
A byte that is not determined is the one before or the one after the store, or that of the old or of the new CS, by a free
choice. -/
def State.aheadByte (s after : State) (j : Nat) (t : State) : Byte × State :=
  let old := Config.freeBit (after.cpu.draws + j)
  if s.storesAhead after j then
    let b := if old then s.window.getD j 0 else after.peek (s.aheadAddr j)
    (b, if j < after.biu.q.length then t else t.log (.code (s.aheadAddr j)) b t.biu.ticks)
  else if s.unsettled after j then
    if j < s.biu.q.length then
      if old then (s.biu.q.getD j 0, t) else t.perform (.code (after.aheadAddr j))
    else t.perform (.code (if old then s.aheadAddr j else after.aheadAddr j))
  else if j < after.biu.q.length then (after.biu.q.getD j 0, t)
  else t.perform (.code (after.aheadAddr j))

/-- So many bytes after the instruction, from the `j`-th on. -/
def State.aheadFrom (s after : State) : (count j : Nat) → State → List Byte × State
  | 0, _, t => ([], t)
  | k + 1, j, t =>
    let x := s.aheadByte after j t
    let y := s.aheadFrom after k (j + 1) x.2
    (x.1 :: y.1, y.2)

/-- What a Level A step makes of the bytes that follow an instruction which stored to them, or loaded CS, and did not end with a
flush: the queue reaches to the last byte that is not determined (20_memory.md R108; 40_data_transfer.md R171, R176; DEDUCED,
log entry 20). -/
def State.settleAhead (s after : State) (flushed : Bool) : State :=
  if flushed || s.aheadDepth after = 0 then after
  else
    let x := s.aheadFrom after (max (s.aheadDepth after) after.biu.q.length) 0 after
    let b := { x.2.biu with q := x.1 }
    { x.2 with
      cpu := x.2.cpu.drew
      biu := if s.aheadDepth after ≤ after.biu.q.length then b else b.dropFetch }

/-- The string instruction of an opcode, for the iterations of a repeated one (43_string.md R277). -/
def stringOfOpcode (opcode : Byte) : Instr :=
  match decodeOpcode opcode [] with
  | .ok i _ => i
  | .rejected _ => .nop

/-- `FLUSH_ON_SEG_EDGE`: an instruction the predicate holds of, its marks among it, flushes the queue as it completes if it had
a segment override (45_processor_control.md R333, 50_pipeline_bus_timing.md R388). -/
def State.segEdge (s : State) (i : Instr) (before : Cpu) : State :=
  if before.segOverride.isSome && s.cpu.segOverride.isNone && decide (⟨before.prefixes, i⟩ ∈ s.params.segEdgeFlush) then
    { s with biu := s.biu.flush }
  else s

end Sys2Proof.Machine
end

