-- ==== Sys2Proof/Machine/Programs.lean ====
section
/-!
DEFINITION. The program of every instruction, for the tick-level machine (50_pipeline_bus_timing.md R390).
-/
namespace Sys2Proof.Machine

/-- The program of an instruction (50_pipeline_bus_timing.md R390). -/
def progOf (i : Instr) : Cpu → Prog :=
  match i with
  | .addEbGb rm reg => progAddEbGb rm reg
  | .addEvGv rm reg => progAddEvGv rm reg
  | .addGbEb reg rm => progAddGbEb reg rm
  | .addGvEv reg rm => progAddGvEv reg rm
  | .addALIb imm => progAddALIb imm
  | .addAXIv imm => progAddAXIv imm
  | .orEbGb rm reg => progOrEbGb rm reg
  | .orEvGv rm reg => progOrEvGv rm reg
  | .orGbEb reg rm => progOrGbEb reg rm
  | .orGvEv reg rm => progOrGvEv reg rm
  | .orALIb imm => progOrALIb imm
  | .orAXIv imm => progOrAXIv imm
  | .adcEbGb rm reg => progAdcEbGb rm reg
  | .adcEvGv rm reg => progAdcEvGv rm reg
  | .adcGbEb reg rm => progAdcGbEb reg rm
  | .adcGvEv reg rm => progAdcGvEv reg rm
  | .adcALIb imm => progAdcALIb imm
  | .adcAXIv imm => progAdcAXIv imm
  | .sbbEbGb rm reg => progSbbEbGb rm reg
  | .sbbEvGv rm reg => progSbbEvGv rm reg
  | .sbbGbEb reg rm => progSbbGbEb reg rm
  | .sbbGvEv reg rm => progSbbGvEv reg rm
  | .sbbALIb imm => progSbbALIb imm
  | .sbbAXIv imm => progSbbAXIv imm
  | .andEbGb rm reg => progAndEbGb rm reg
  | .andEvGv rm reg => progAndEvGv rm reg
  | .andGbEb reg rm => progAndGbEb reg rm
  | .andGvEv reg rm => progAndGvEv reg rm
  | .andALIb imm => progAndALIb imm
  | .andAXIv imm => progAndAXIv imm
  | .subEbGb rm reg => progSubEbGb rm reg
  | .subEvGv rm reg => progSubEvGv rm reg
  | .subGbEb reg rm => progSubGbEb reg rm
  | .subGvEv reg rm => progSubGvEv reg rm
  | .subALIb imm => progSubALIb imm
  | .subAXIv imm => progSubAXIv imm
  | .xorEbGb rm reg => progXorEbGb rm reg
  | .xorEvGv rm reg => progXorEvGv rm reg
  | .xorGbEb reg rm => progXorGbEb reg rm
  | .xorGvEv reg rm => progXorGvEv reg rm
  | .xorALIb imm => progXorALIb imm
  | .xorAXIv imm => progXorAXIv imm
  | .cmpEbGb rm reg => progCmpEbGb rm reg
  | .cmpEvGv rm reg => progCmpEvGv rm reg
  | .cmpGbEb reg rm => progCmpGbEb reg rm
  | .cmpGvEv reg rm => progCmpGvEv reg rm
  | .cmpALIb imm => progCmpALIb imm
  | .cmpAXIv imm => progCmpAXIv imm
  | .incReg16 r => progIncReg16 r
  | .decReg16 r => progDecReg16 r
  | .pushReg16 r => progPushReg16 r
  | .popReg16 r => progPopReg16 r
  | .jcc60 cc disp => progJcc60 cc disp
  | .jcc cc disp => progJcc cc disp
  | .addEbIb rm imm => progAddEbIb rm imm
  | .orEbIb rm imm => progOrEbIb rm imm
  | .adcEbIb rm imm => progAdcEbIb rm imm
  | .sbbEbIb rm imm => progSbbEbIb rm imm
  | .andEbIb rm imm => progAndEbIb rm imm
  | .subEbIb rm imm => progSubEbIb rm imm
  | .xorEbIb rm imm => progXorEbIb rm imm
  | .cmpEbIb rm imm => progCmpEbIb rm imm
  | .addEvIv rm imm => progAddEvIv rm imm
  | .orEvIv rm imm => progOrEvIv rm imm
  | .adcEvIv rm imm => progAdcEvIv rm imm
  | .sbbEvIv rm imm => progSbbEvIv rm imm
  | .andEvIv rm imm => progAndEvIv rm imm
  | .subEvIv rm imm => progSubEvIv rm imm
  | .xorEvIv rm imm => progXorEvIv rm imm
  | .cmpEvIv rm imm => progCmpEvIv rm imm
  | .addEbIb82 rm imm => progAddEbIb82 rm imm
  | .orEbIb82 rm imm => progOrEbIb82 rm imm
  | .adcEbIb82 rm imm => progAdcEbIb82 rm imm
  | .sbbEbIb82 rm imm => progSbbEbIb82 rm imm
  | .andEbIb82 rm imm => progAndEbIb82 rm imm
  | .subEbIb82 rm imm => progSubEbIb82 rm imm
  | .xorEbIb82 rm imm => progXorEbIb82 rm imm
  | .cmpEbIb82 rm imm => progCmpEbIb82 rm imm
  | .addEvIbs rm imm => progAddEvIbs rm imm
  | .orEvIbs rm imm => progOrEvIbs rm imm
  | .adcEvIbs rm imm => progAdcEvIbs rm imm
  | .sbbEvIbs rm imm => progSbbEvIbs rm imm
  | .andEvIbs rm imm => progAndEvIbs rm imm
  | .subEvIbs rm imm => progSubEvIbs rm imm
  | .xorEvIbs rm imm => progXorEvIbs rm imm
  | .cmpEvIbs rm imm => progCmpEvIbs rm imm
  | .testEbGb rm reg => progTestEbGb rm reg
  | .testEvGv rm reg => progTestEvGv rm reg
  | .xchgEbGb rm reg => progXchgEbGb rm reg
  | .xchgEvGv rm reg => progXchgEvGv rm reg
  | .movEbGb rm reg => progMovEbGb rm reg
  | .movEvGv rm reg => progMovEvGv rm reg
  | .movGbEb reg rm => progMovGbEb reg rm
  | .movGvEv reg rm => progMovGvEv reg rm
  | .movEwSw rm sr => progMovEwSw rm sr
  | .movEwSwHi rm sr => progMovEwSwHi rm sr
  | .lea reg m => progLea reg m
  | .undefLea reg rm => progUndefLea reg rm
  | .movSwEw sr rm => progMovSwEw sr rm
  | .movSwEwHi sr rm => progMovSwEwHi sr rm
  | .popEv rm => progPopEv rm
  | .undef8F1 rm => progUndef8F1 rm
  | .undef8F2 rm => progUndef8F2 rm
  | .undef8F3 rm => progUndef8F3 rm
  | .undef8F4 rm => progUndef8F4 rm
  | .undef8F5 rm => progUndef8F5 rm
  | .undef8F6 rm => progUndef8F6 rm
  | .undef8F7 rm => progUndef8F7 rm
  | .callAp off seg => progCallAp off seg
  | .movALOb off => progMovALOb off
  | .movAXOv off => progMovAXOv off
  | .movObAL off => progMovObAL off
  | .movOvAX off => progMovOvAX off
  | .testALIb imm => progTestALIb imm
  | .testAXIv imm => progTestAXIv imm
  | .movReg8Ib r imm => progMovReg8Ib r imm
  | .movReg16Iv r imm => progMovReg16Iv r imm
  | .retIwC0 imm => progRetIwC0 imm
  | .retIw imm => progRetIw imm
  | .les reg m => progLes reg m
  | .undefLes reg rm => progUndefLes reg rm
  | .lds reg m => progLds reg m
  | .undefLds reg rm => progUndefLds reg rm
  | .movEbIb rm imm => progMovEbIb rm imm
  | .undefC61 rm imm => progUndefC61 rm imm
  | .undefC62 rm imm => progUndefC62 rm imm
  | .undefC63 rm imm => progUndefC63 rm imm
  | .undefC64 rm imm => progUndefC64 rm imm
  | .undefC65 rm imm => progUndefC65 rm imm
  | .undefC66 rm imm => progUndefC66 rm imm
  | .undefC67 rm imm => progUndefC67 rm imm
  | .movEvIv rm imm => progMovEvIv rm imm
  | .undefC71 rm imm => progUndefC71 rm imm
  | .undefC72 rm imm => progUndefC72 rm imm
  | .undefC73 rm imm => progUndefC73 rm imm
  | .undefC74 rm imm => progUndefC74 rm imm
  | .undefC75 rm imm => progUndefC75 rm imm
  | .undefC76 rm imm => progUndefC76 rm imm
  | .undefC77 rm imm => progUndefC77 rm imm
  | .retfIwC8 imm => progRetfIwC8 imm
  | .retfIw imm => progRetfIw imm
  | .intIb imm => progIntIb imm
  | .rolEb1 rm => progRolEb1 rm
  | .rorEb1 rm => progRorEb1 rm
  | .rclEb1 rm => progRclEb1 rm
  | .rcrEb1 rm => progRcrEb1 rm
  | .shlEb1 rm => progShlEb1 rm
  | .shrEb1 rm => progShrEb1 rm
  | .undefD06 rm => progUndefD06 rm
  | .sarEb1 rm => progSarEb1 rm
  | .rolEv1 rm => progRolEv1 rm
  | .rorEv1 rm => progRorEv1 rm
  | .rclEv1 rm => progRclEv1 rm
  | .rcrEv1 rm => progRcrEv1 rm
  | .shlEv1 rm => progShlEv1 rm
  | .shrEv1 rm => progShrEv1 rm
  | .undefD16 rm => progUndefD16 rm
  | .sarEv1 rm => progSarEv1 rm
  | .rolEbCL rm => progRolEbCL rm
  | .rorEbCL rm => progRorEbCL rm
  | .rclEbCL rm => progRclEbCL rm
  | .rcrEbCL rm => progRcrEbCL rm
  | .shlEbCL rm => progShlEbCL rm
  | .shrEbCL rm => progShrEbCL rm
  | .undefD26 rm => progUndefD26 rm
  | .sarEbCL rm => progSarEbCL rm
  | .rolEvCL rm => progRolEvCL rm
  | .rorEvCL rm => progRorEvCL rm
  | .rclEvCL rm => progRclEvCL rm
  | .rcrEvCL rm => progRcrEvCL rm
  | .shlEvCL rm => progShlEvCL rm
  | .shrEvCL rm => progShrEvCL rm
  | .undefD36 rm => progUndefD36 rm
  | .sarEvCL rm => progSarEvCL rm
  | .aam imm => progAam imm
  | .aad imm => progAad imm
  | .esc op reg rm => progEsc op reg rm
  | .loopne disp => progLoopne disp
  | .loope disp => progLoope disp
  | .loop disp => progLoop disp
  | .jcxz disp => progJcxz disp
  | .inALIb imm => progInALIb imm
  | .inAXIb imm => progInAXIb imm
  | .outIbAL imm => progOutIbAL imm
  | .outIbAX imm => progOutIbAX imm
  | .callJv disp => progCallJv disp
  | .jmpJv disp => progJmpJv disp
  | .jmpAp off seg => progJmpAp off seg
  | .jmpJb disp => progJmpJb disp
  | .testEbIb rm imm => progTestEbIb rm imm
  | .testEbIb1 rm imm => progTestEbIb1 rm imm
  | .notEb rm => progNotEb rm
  | .negEb rm => progNegEb rm
  | .mulEb rm => progMulEb rm
  | .imulEb rm => progImulEb rm
  | .divEb rm => progDivEb rm
  | .idivEb rm => progIdivEb rm
  | .testEvIv rm imm => progTestEvIv rm imm
  | .testEvIv1 rm imm => progTestEvIv1 rm imm
  | .notEv rm => progNotEv rm
  | .negEv rm => progNegEv rm
  | .mulEv rm => progMulEv rm
  | .imulEv rm => progImulEv rm
  | .divEv rm => progDivEv rm
  | .idivEv rm => progIdivEv rm
  | .incEb rm => progIncEb rm
  | .decEb rm => progDecEb rm
  | .undefFE2 rm => progUndefFE2 rm
  | .undefFE3 rm => progUndefFE3 rm
  | .undefFE4 rm => progUndefFE4 rm
  | .undefFE5 rm => progUndefFE5 rm
  | .undefFE6 rm => progUndefFE6 rm
  | .undefFE7 rm => progUndefFE7 rm
  | .incEv rm => progIncEv rm
  | .decEv rm => progDecEv rm
  | .callEv rm => progCallEv rm
  | .callMp m => progCallMp m
  | .undefFF3 r => progUndefFF3 r
  | .jmpEv rm => progJmpEv rm
  | .jmpMp m => progJmpMp m
  | .undefFF5 r => progUndefFF5 r
  | .pushEv rm => progPushEv rm
  | .undefFF7 rm => progUndefFF7 rm
  | .pushES => progPushES
  | .popES => progPopES
  | .segES => progSegES
  | .pushCS => progPushCS
  | .popCS => progPopCS
  | .segCS => progSegCS
  | .pushSS => progPushSS
  | .popSS => progPopSS
  | .segSS => progSegSS
  | .pushDS => progPushDS
  | .popDS => progPopDS
  | .segDS => progSegDS
  | .daa => progDaa
  | .das => progDas
  | .aaa => progAaa
  | .aas => progAas
  | .nop => progNop
  | .xchgAXCX => progXchgAXCX
  | .xchgAXDX => progXchgAXDX
  | .xchgAXBX => progXchgAXBX
  | .xchgAXSP => progXchgAXSP
  | .xchgAXBP => progXchgAXBP
  | .xchgAXSI => progXchgAXSI
  | .xchgAXDI => progXchgAXDI
  | .cbw => progCbw
  | .cwd => progCwd
  | .wait => progWait
  | .pushf => progPushf
  | .popf => progPopf
  | .sahf => progSahf
  | .lahf => progLahf
  | .movsb => progMovsb
  | .movsw => progMovsw
  | .cmpsb => progCmpsb
  | .cmpsw => progCmpsw
  | .stosb => progStosb
  | .stosw => progStosw
  | .lodsb => progLodsb
  | .lodsw => progLodsw
  | .scasb => progScasb
  | .scasw => progScasw
  | .retC1 => progRetC1
  | .ret => progRet
  | .retfC9 => progRetfC9
  | .retf => progRetf
  | .int3 => progInt3
  | .into => progInto
  | .iret => progIret
  | .salc => progSalc
  | .xlat => progXlat
  | .inALDX => progInALDX
  | .inAXDX => progInAXDX
  | .outDXAL => progOutDXAL
  | .outDXAX => progOutDXAX
  | .lock => progLock
  | .lockF1 => progLockF1
  | .repne => progRepne
  | .rep => progRep
  | .hlt => progHlt
  | .cmc => progCmc
  | .clc => progClc
  | .stc => progStc
  | .cli => progCli
  | .sti => progSti
  | .cld => progCld
  | .std => progStd

end Sys2Proof.Machine
end

