-- ==== Sys2Proof/Machine/Time.lean ====
section
/-!
DEFINITION. Level T: one tick of the whole block in the order of 50_pipeline_bus_timing.md R371, with the bus interface unit
(R377 to R388), the execution unit (R390 to R392, R400 to R405), the devices, the lines, and the RESET event
(70_reset_and_hazards.md R700, R712).
-/
namespace Sys2Proof.Machine

/-! ## The bus interface unit -/

/-- A tick of a CPU bus cycle (50_pipeline_bus_timing.md R381). -/
def TState.isCycle : TState → Bool
  | .t1 | .t2 | .t3 | .tw | .t4 => true
  | .ti | .th => false

/-- A code byte would arrive in a full queue (50_pipeline_bus_timing.md R387). -/
def Biu.overrun (b : Biu) : Bool :=
  decide (b.t = .t4) && decide (Config.queueSize ≤ b.q.length) &&
    match b.cur with
    | some x => decide (x.req.cycle = .code) && !x.discard
    | none => false

/-- A CPU bus cycle and a DMA transfer meet in this tick (50_pipeline_bus_timing.md R385, 63_dma.md R601). -/
def State.collision (s : State) : Bool := s.biu.t.isCycle && s.dma.active.isSome

/-- The access of the cycle in progress takes effect (50_pipeline_bus_timing.md R383). -/
def State.land (s : State) (x : BusCycle) : State :=
  let (b, t) := s.access x.req
  { t with biu := { t.biu with cur := some { x with data := b, landed := true } } }

/-- The cycle in progress completes (50_pipeline_bus_timing.md R384). -/
def State.complete (s : State) (x : BusCycle) : State :=
  let t := s.log x.req x.data x.t1
  let b := { t.biu with cur := none }
  { t with biu :=
      if x.req.cycle = .code then if x.discard then b else { b with q := b.q ++ [x.data] }
      else { b with eudone := some x.data } }

/-- The BIU phase of a tick (50_pipeline_bus_timing.md R377). -/
def State.biuPhase (s : State) : State :=
  match s.biu.t, s.biu.cur with
  | .t3, some x | .tw, some x =>
    if x.waitsLeft = 0 then s.land x
    else { s with biu := { s.biu with cur := some { x with waitsLeft := x.waitsLeft - 1 } } }
  | .t4, some x => s.complete x
  | _, _ => s

/-- A bus cycle as it starts; `TICKS` in its T1 is one more than now (50_pipeline_bus_timing.md R382). -/
def Biu.startCycle (b : Biu) (r : BusReq) : Biu :=
  { b with
    t := .t1
    cur := some { req := r, data := 0, waitsLeft := r.cycle.waits, landed := false, discard := false, t1 := b.ticks + 1 } }

/-- XCHG, which locks the bus when its operand is in memory (20_memory.md R104). -/
def locksBus : Instr → Bool
  | .xchgEbGb _ _ | .xchgEvGv _ _ => true
  | _ => false

/-- The bus is locked during an access of a task: under the LOCK mark, in XCHG with memory, in an acknowledge cycle
(20_memory.md R104, 50_pipeline_bus_timing.md R400, R411). -/
def taskLocks (lockMark : Bool) (task : EuTask) (r : BusReq) : Bool :=
  lockMark || decide (r = .inta) ||
    match task with
    | .instr i => locksBus i
    | .entry _ _ => false

/-- The bus is locked during an access of the task in hand. -/
def Eu.locks (e : Eu) (r : BusReq) : Bool :=
  match e.prog with
  | .run task start _ => taskLocks start.lockMark task r
  | .idle | .fetch _ => false

/-- What follows a bus-cycle boundary without a grant: the execution unit's request, a prefetch, or an idle tick
(50_pipeline_bus_timing.md R377, R386).
LOCKLINE rises as the first locked cycle starts, as 20_memory.md R104 has it, so a hold request already pending at this
boundary is granted first, although 50_pipeline_bus_timing.md R411 says "during" the instruction (DESIGN CHOICE, log entry
32). -/
def State.nextCycle (s : State) : State :=
  match s.biu.eureq with
  | some r =>
    { s with biu := { s.biu with eureq := none, lockline := s.biu.lockline || s.eu.locks r }.startCycle r }
  | none =>
    if s.biu.q.length < Config.queueSize && !s.cpu.halted then
      { s with biu := s.biu.startCycle (.code (phys s.cpu.cs s.pfp)) }
    else { s with biu := { s.biu with t := .ti } }

/-- Set the label of the next tick. -/
def State.setT (s : State) (t : TState) : State := { s with biu := { s.biu with t := t } }

/-- The access of the cycle in progress has taken effect. -/
def Biu.curLanded (b : Biu) : Bool :=
  match b.cur with
  | some x => x.landed
  | none => true

/-- The next-state selection (50_pipeline_bus_timing.md R377, R411). -/
def State.nextT (s : State) : State :=
  match s.biu.t with
  | .t1 => s.setT .t2
  | .t2 => s.setT .t3
  | .t3 | .tw => s.setT (if s.biu.curLanded then .t4 else .tw)
  | .t4 | .ti => if s.lines.hrq && !s.biu.lockline then s.setT .th else s.nextCycle
  | .th => if s.lines.hrq then s.setT .th else s.nextCycle

/-! ## The execution unit -/

/-- The program of a task (50_pipeline_bus_timing.md R390). -/
def taskProg (task : EuTask) (c : Cpu) : Prog :=
  match task with
  | .instr i => progOf i c
  | .entry k ip => entryProg k ip c

/-- What a program does next: past its notes, and with the looks at the TEST line answered. -/
def Prog.settle (level : Bool) : Prog → Prog
  | .test k => (k level).settle level
  | .note _ p => p.settle level
  | p => p

/-- What is left of a program once its accesses have answered some bytes. -/
def Prog.resume : Prog → List Byte → Prog
  | .bus _ k, b :: bs => (k b).resume bs
  | .note _ p, b :: bs => p.resume (b :: bs)
  | p, _ => p

/-- What is left of a task that began with a CPU and whose accesses have answered some bytes. -/
def taskRest (task : EuTask) (start : Cpu) (answers : List Byte) : Prog := (taskProg task start).resume answers

/-- The registers, the flags and REP_ACTIVE of `d`, with the pointer of the instruction stream and what is decided at boundaries
from `c`. -/
def Cpu.showing (c d : Cpu) : Cpu :=
  { c with
    ax := d.ax, cx := d.cx, dx := d.dx, bx := d.bx, sp := d.sp, bp := d.bp, si := d.si, di := d.di
    es := d.es, ss := d.ss, ds := d.ds, flags := d.flags, repActive := d.repActive, draws := d.draws }

/-- The CPU in the tick in which a micro-step completes: the registers and flags whose values are then known, as the rest of
the program has them (50_pipeline_bus_timing.md R390).
IP and, for a control transfer, CS wait for the flush, HALTED and the decode state for the completion (DEDUCED, log entry 11). -/
def Prog.shown (c : Cpu) : Prog → Cpu
  | .note d p => p.shown (c.showing d)
  | .retire d => { c.showing d with cs := d.cs }
  | .transfer d | .more d => c.showing d
  | .bus _ _ | .test _ => c

/-- LOCKLINE from what a task does next: it stays between the accesses that are locked, and over the iterations of a locked
repeated instruction (20_memory.md R104, 43_string.md R276).
It falls with the answer of the last locked access, as R104 has it, and so before the gap that ends the instruction, although
50_pipeline_bus_timing.md R411 says "during" the instruction (DESIGN CHOICE, log entry 32). -/
def Prog.nextLock (locks : BusReq → Bool) (line : Bool) : Prog → Bool
  | .bus r _ => line && locks r
  | .more _ => line
  | .note _ p => p.nextLock locks line
  | .retire _ | .transfer _ | .test _ => false

/-- Post a request to the bus interface unit (50_pipeline_bus_timing.md R390). -/
def State.post (s : State) (r : BusReq) : State := { s with biu := { s.biu with eureq := some r } }

/-- The next of the internal gaps (50_pipeline_bus_timing.md R390). -/
def State.gap (s : State) : Nat := s.host.gaps.headD 0

/-- Begin an internal gap of some ticks, the next of the list added to it. -/
def State.beginGap (s : State) (more : Nat) : State :=
  { s with eu := { s.eu with wait := s.gap + more }, host := { s.host with gaps := s.host.gaps.tail } }

/-- Put a task into the execution unit. -/
def State.setProg (s : State) (p : EuProg) : State := { s with eu := { s.eu with prog := p } }

/-- Put a task into the execution unit as its accesses have come to stand: the values known by now show, and a gap begins. -/
def State.setTask (s : State) (task : EuTask) (start : Cpu) (answers : List Byte) (more : Nat) : State :=
  ({ s with cpu := (taskRest task start answers).shown s.cpu }.setProg (.run task start answers)).beginGap more

/-- Begin a task after a gap; without a gap its first request is posted at once. -/
def State.beginTask (s : State) (task : EuTask) (latency : Nat) : State :=
  let t := s.setTask task s.cpu [] latency
  if t.eu.wait = 0 then
    match (taskProg task s.cpu).settle s.lines.test with
    | .bus r _ => t.post r
    | _ => t
  else t

/-- A boundary: the lock is released, and the trace ring is handed out (50_pipeline_bus_timing.md R392, R405). -/
def State.atBoundary (s : State) : State :=
  { s with biu := { s.biu with lockline := false, ring := s.biu.trace, trace := [], boundary := true } }

/-- An interrupt entry begins: a boundary of its own when it interrupts a repeated string instruction
(50_pipeline_bus_timing.md R392). -/
def State.interrupt (s : State) (k : EntryKind) : State :=
  (if s.cpu.repActive.isSome then s.atBoundary else s).beginEntry k

/-- `INT_LATENCY`, which comes before the first acknowledge cycle (50_pipeline_bus_timing.md R400). -/
def State.latency (s : State) (k : EntryKind) : Nat := if k = .maskable then s.params.intLatency else 0

/-- What the execution unit takes up at a sampling point, or after a mark (50_pipeline_bus_timing.md R392, R400 to R402;
60_exceptions.md R446).
The first byte of the next instruction is taken in the next tick at the earliest, even if none was taken in this one
(DEDUCED, log entry 12). -/
def State.takeUp (s : State) : State :=
  if s.cpu.midUnit then s.setProg (.fetch [])
  else match s.choose with
    | some k => (s.interrupt k).beginTask (.entry k s.cpu.returnIp) (s.latency k)
    | none =>
      let t := s.goOn
      if t.cpu.halted then t.setProg .idle
      else match t.cpu.repActive with
        | some r => t.beginTask (.instr (stringOfOpcode r.opcode)) 0
        | none => if t.cpu.waiting then t.setProg (.run (.instr .wait) t.cpu []) else t.setProg (.fetch [])

/-- `FLUSH_ON_SEG_EDGE` as a task completes. -/
def State.taskEdge (s : State) (task : EuTask) (before : Cpu) : State :=
  match task with
  | .instr i => s.segEdge i before
  | .entry _ _ => s

/-- The next micro-step of the task in hand: post a request, or complete (50_pipeline_bus_timing.md R390, R392). -/
def State.advance (s : State) (task : EuTask) (start : Cpu) (answers : List Byte) : State :=
  match (taskRest task start answers).settle s.lines.test with
  | .bus r _ => s.post r
  | .retire c => (((s.retire c).taskEdge task start).atBoundary).takeUp
  | .transfer c => (((s.transfer c).taskEdge task start).atBoundary).takeUp
  | .more c => { s with cpu := c }.takeUp
  | .note _ _ | .test _ => s

/-- Go on with a task: without a gap its next micro-step comes at once. -/
def State.proceed (s : State) (task : EuTask) (start : Cpu) (answers : List Byte) : State :=
  let t := s.setTask task start answers 0
  if t.eu.wait = 0 then t.advance task start answers else t

/-- Take the oldest byte of the queue (50_pipeline_bus_timing.md R376, R390). -/
def State.takeByte (s : State) (rest : List Byte) : State :=
  { s with cpu := { s.cpu with ip := s.cpu.ip + 1 }, biu := { s.biu with q := rest } }

/-- The execution unit waits for an access it has posted. -/
def Biu.euBusy (b : Biu) : Bool :=
  b.eureq.isSome ||
    match b.cur with
    | some x => decide (x.req.cycle ≠ .code)
    | none => false

/-- The micro-step in hand: take a byte of the queue, take the answer of an access, or go on
(50_pipeline_bus_timing.md R390). -/
def State.euWork (s : State) : State :=
  match s.eu.prog with
  | .idle => s
  | .fetch bytes =>
    match s.biu.q with
    | [] => s
    | b :: rest =>
      let t := s.takeByte rest
      match decode (bytes ++ [b]) with
      | .ok i _ => t.proceed (.instr i) t.cpu []
      | .rejected _ => (t.setProg (.fetch (bytes ++ [b]))).beginGap 0
  | .run task start answers =>
    match s.biu.eudone with
    | some b =>
      let line := (taskRest task start (answers ++ [b])).nextLock (taskLocks start.lockMark task) s.biu.lockline
      { s with biu := { s.biu with eudone := none, lockline := line } }.proceed task start (answers ++ [b])
    | none => if s.biu.euBusy then s else s.advance task start answers

/-- The tick in which a gap ends: the next access is posted, or the task completes, in this very tick; a byte of the queue is
taken in a tick of its own (50_pipeline_bus_timing.md R390; DEDUCED, log entry 12). -/
def State.afterGap (s : State) : State :=
  match s.eu.prog with
  | .idle | .fetch _ => s
  | .run task start answers => s.advance task start answers

/-- The EU phase of a tick (50_pipeline_bus_timing.md R377, R390). -/
def State.euPhase (s : State) : State :=
  if 0 < s.eu.wait then
    let t := { s with eu := { s.eu with wait := s.eu.wait - 1 } }
    if t.eu.wait = 0 then t.afterGap else t
  else match s.eu.prog with
    | .idle => if s.takeUp.eu.wait = 0 then s.takeUp.euWork else s.takeUp
    | .fetch _ | .run _ _ _ => s.euWork

/-! ## The lines and the host -/

/-- The input of this tick, if the host has one. -/
def State.input (s : State) : Option TickInput := s.host.inputs.head?

/-- The RESET event comes in this tick. -/
def State.resetDue (s : State) : Bool :=
  match s.input with
  | some i => i.reset
  | none => false

/-- The scancode event of this tick, if any (64_ppi.md R631). -/
def State.keyboard (s : State) : State :=
  match s.input.bind (·.scancode) with
  | none => s
  | some b => if s.ppi.accepts then { s with ppi := s.ppi.scancode b } else { s with host := s.host.emit (.scancodeRefused b) }

/-- The lines from the new state of every driver (10_state.md R28); HRQ from the requests the DMA step saw
(63_dma.md R595, R596). -/
def State.newLines (s : State) (hlda : Bool) : Lines :=
  let pins := s.input
  { intr := s.pic.intr
    nmi := (pins.map (·.nmi)).getD s.lines.nmi
    test := (pins.map (·.test)).getD s.params.testPin
    lock := s.biu.lockline
    irq := ((pins.map (·.irq)).getD s.lines.irq &&& 0xFC) ||| BitVec.ofNat 8 (bitOf s.pit.c0.outv + 2 * bitOf s.ppi.kbFull)
    dreq := s.dma.dreqIn ((pins.map (·.dreq)).getD s.lines.dreq)
    dack := s.dma.dack
    tc := s.dma.tcPulse
    hrq := s.dma.hrq (s.dma.dreqIn s.lines.dreq)
    hlda := hlda
    gate := BitVec.ofNat 3 (3 + 4 * bitOf (s.ppi.pb 0))
    out := s.pit.out
    spkr := s.pit.c2.outv && s.ppi.pb 1
    hsync := s.video.inHsync
    vsync := s.video.inVsync
    de := s.video.de }

/-- The input of this tick is spent. -/
def State.dropInput (s : State) : State := { s with host := { s.host with inputs := s.host.inputs.tail } }

/-- Step 7 of a tick without a reset: the host's events and pins, the lines, and TICKS (50_pipeline_bus_timing.md R371).
A scancode comes before the lines, so IRQ1 rises in its tick (DESIGN CHOICE, log entry 33). -/
def State.endTick (s : State) (hlda : Bool) : State :=
  let t := s.keyboard
  { t with lines := t.newLines hlda, biu := { t.biu with ticks := t.biu.ticks + 1 } }.dropInput

/-- The RESET event (70_reset_and_hazards.md R700): everything as after power-on; ROM, the parameters and the host's side
stay, RAM and video memory hold new free bytes.
A boundary reached in the tick of the RESET is not reported, and its trace ring is not handed out, while the events already told
to the host in that step stay told (DESIGN CHOICE, log entry 42). -/
def State.restart (s : State) : State :=
  { State.reset with
    cpu := { Cpu.reset with draws := s.cpu.draws }
    mem := keepRom s.params.ramSize s.mem
    memEpoch := s.memEpoch + 1
    host := s.host
    params := s.params }

/-! ## The tick -/

/-- Steps 2 to 6 of a tick: the devices in their order (50_pipeline_bus_timing.md R371).
The interrupt controller sees OUT0 as the timer just left it. -/
def State.deviceTicks (s : State) (hlda : Bool) : State :=
  let a := { s with
    pit := s.pit.tick s.lines.gate s.host.draws
    host := { s.host with draws := s.host.draws + (if s.pit.timerTickDue then 3 else 0) } }
  let b := { a with pic := a.pic.tick (putBit a.lines.irq 0 a.pit.c0.outv) }
  let c := b.dmaTick hlda
  { c with ppi := c.ppi.tick }.videoTick

/-- A tick whose EU phase is given (50_pipeline_bus_timing.md R371).
The edge detector of the NMI pin runs first, so an edge counts at a sampling point of its own tick (DESIGN CHOICE, log entry
37).
RESET comes before a scancode of the same tick, which meets the freshly reset chip: it is not accepted, and the host is told
(DESIGN CHOICE, log entry 33).
The pin levels of a tick with RESET are not applied: every line is false after it (70_reset_and_hazards.md R700), and stays so
until an input gives its level again (DESIGN CHOICE, log entry 6). -/
def State.tickBody (s : State) (eu : State → State) : State :=
  let hlda := decide (s.biu.t = .th)
  let c := (eu ({ s.sampleNmi with biu := { s.biu with boundary := false } }.biuPhase)).nextT
  let d := c.deviceTicks hlda
  if d.resetDue then d.restart.keyboard.dropInput else d.endTick hlda

/-- A tick, or the fault of a state the spec wants unreachable (70_reset_and_hazards.md R716). -/
def State.tickWith (s : State) (eu : State → State) : Host.Outcome State Fault Refusal :=
  if s.biu.overrun then .fault .prefetchOverrun
  else if s.collision then .fault .busCollision
  else .next (s.tickBody eu)

/-- One tick of Level T (50_pipeline_bus_timing.md R371). -/
def State.tick (s : State) : Host.Outcome State Fault Refusal := s.tickWith State.euPhase

/-! ## Coarser stepping (50_pipeline_bus_timing.md R372) -/

/-- Ticks until one that is told apart by the states before and after it, at most some number of them; with the state comes
whether an instruction boundary was reached.
A RESET on the way does not end the repetition: step-instruction goes on to the first boundary after it, and step-bus-cycle,
whose cycle is gone, makes the one tick of an idle bus after it (DESIGN CHOICE, log entry 5). -/
def State.ticksUntil (last : State → State → Bool) : (limit : Nat) → (reached : Bool) → State →
    Host.Outcome (State × Bool) Fault Refusal
  | 0, reached, s => .next (s, reached)
  | k + 1, reached, s =>
    match s.tick with
    | .next t =>
      if last s t then .next (t, reached || t.biu.boundary) else t.ticksUntil last k (reached || t.biu.boundary)
    | .fault r => .fault r
    | .refused r => .refused r

/-- Step-bus-cycle: ticks until the one that ends a bus cycle, or one tick with no cycle in progress. -/
def State.stepBusCycle (s : State) : Host.Outcome (State × Bool) Fault Refusal :=
  s.ticksUntil (fun before _ => decide (before.biu.t = .t4) || !before.biu.t.isCycle)
    (Config.busCycleTicks + 1 + ((s.biu.cur.map (·.waitsLeft)).getD 0)) false

/-- Step-instruction: ticks until an instruction boundary, at most `limit` of them, since a halted machine reports none. -/
def State.stepInstruction (s : State) (limit : Nat) : Host.Outcome (State × Bool) Fault Refusal :=
  s.ticksUntil (fun _ after => after.biu.boundary) limit false

/-! ## The ticks a Level A step takes (DESIGN CHOICE, log entry 5) -/

/-- Let ticks pass in which the execution unit does nothing, then go on; a RESET ends the step. -/
def State.afterTicks : (count : Nat) → State → (State → Host.Outcome State Fault Refusal) → Host.Outcome State Fault Refusal
  | 0, s, k => k s
  | n + 1, s, k =>
    match s.tickWith id with
    | .next t => if s.resetDue then .next t else t.afterTicks n k
    | .fault r => .fault r
    | .refused r => .refused r

/-- The ticks of the bus cycles in some trace records (50_pipeline_bus_timing.md R381). -/
def cycleTicks (records : List TraceRecord) : Nat :=
  (records.map fun r => Config.busCycleTicks + r.cycle.waits).sum

/-- The ticks a Level A step takes when the host gives no number: those of its bus cycles and one for each byte taken from
the queue, at least one. -/
def stepTicks (before after : State) (fromQueue : Nat) : Nat :=
  max 1 (cycleTicks (after.biu.trace.drop before.biu.trace.length) + fromQueue)

/-- A Level A step is at an instruction boundary (50_pipeline_bus_timing.md R392). -/
def Cpu.boundary (c : Cpu) : Bool := c.repActive.isNone && !c.waiting && !c.midUnit

/-- A repeated string instruction is about to be interrupted, which is a boundary (50_pipeline_bus_timing.md R392). -/
def State.interrupted (s : State) : Bool := s.cpu.repActive.isSome && s.choose.isSome

/-- Note at the end of a Level A step whether it reached a boundary, and hand out the trace ring if it did
(50_pipeline_bus_timing.md R392, R405). -/
def State.noteBoundary (s : State) (b : Bool) : State :=
  if b || s.interrupted then s.atBoundary else { s with biu := { s.biu with boundary := false } }

/-- Let ticks pass in which the execution unit does nothing, then note the boundary. -/
def State.pass (boundary : Bool) (count : Nat) (s : State) : Host.Outcome State Fault Refusal :=
  s.afterTicks count fun t => .next (t.noteBoundary boundary)

/-- The rest of a Level A step: the ticks it takes pass. -/
def State.finish (s : State) (ticks : Nat) (boundary : Bool) : Host.Outcome State Fault Refusal :=
  { s with host := { s.host with elapse := s.host.elapse.tail } }.pass boundary (s.host.elapse.headD ticks)

/-- The bus is with the DMA controller although it is locked: the first locked access was made while a grant lasted. -/
def Biu.overtaken (b : Biu) : Bool := b.lockline && decide (b.t = .th)

/-- Let the next of the host's gaps pass with the registers and flags of `c` shown, then go on.
It is of no ticks where a grant lasts under the lock, so that no transfer falls between two locked accesses
(20_memory.md R104; DESIGN CHOICE, log entry 5). -/
def State.pause (s : State) (c : Cpu) (k : State → Host.Outcome State Fault Refusal) : Host.Outcome State Fault Refusal :=
  { s with cpu := c, host := { s.host with gaps := s.host.gaps.tail } }.afterTicks (if s.biu.overtaken then 0 else s.gap) k

/-- Set LOCKLINE. -/
def State.setLock (s : State) (b : Bool) : State := { s with biu := { s.biu with lockline := b } }

/-- Run a program with gaps: before each access and before the end ticks pass in which prefetching goes on and, but under the
lock, a DMA transfer may take the bus; so words and read-modify-writes are not atomic (50_pipeline_bus_timing.md R390, R412;
20_memory.md R95, R104).
Values show as soon as they are known, and what goes on is told whether the queue was flushed.
No gap comes after a look of a WAIT, which looks in every tick (45_processor_control.md R342). -/
def Prog.runGaps (locks : BusReq → Bool) : Prog → State → (Bool → State → Host.Outcome State Fault Refusal) →
    Host.Outcome State Fault Refusal
  | .retire c, s, k => s.pause ((Prog.retire c).shown s.cpu) fun t => k false (t.retire c)
  | .transfer c, s, k => s.pause ((Prog.transfer c).shown s.cpu) fun t => k true (t.transfer c)
  | .more c, s, k =>
    if c.waiting then k false { s with cpu := c }
    else s.pause ((Prog.more c).shown s.cpu) fun t => k false { t with cpu := c }
  | .note c p, s, k => p.runGaps locks { s with cpu := s.cpu.showing c } k
  | .test q, s, k => (q s.lines.test).runGaps locks s k
  | .bus r q, s, k => s.pause s.cpu fun t =>
    let u := t.perform r
    (q u.1).runGaps locks (u.2.setLock ((q u.1).nextLock locks (t.biu.lockline || locks r))) k

/-! ## The parts of a Level A step -/

/-- An interrupt entry as a Level A step (60_exceptions.md R436; 50_pipeline_bus_timing.md R400). -/
def State.enterStep (s : State) (k : EntryKind) : Host.Outcome State Fault Refusal :=
  let ip := s.cpu.returnIp
  (s.beginEntry k).afterTicks (s.latency k) fun t =>
    let p := entryProg k ip t.cpu
    let last := fun u : State => u.finish (stepTicks t u 0) true
    if t.host.gaps.isEmpty then last (p.run t) else p.runGaps (taskLocks false (.entry k ip)) t fun _ => last

/-- After a look of a WAIT that found TEST false, which is a sampling point (60_exceptions.md R446 (d)): what is recognised is
entered in the next step, with no tick before it; otherwise a tick passes (log entry 5). -/
def State.afterLook (s : State) : Host.Outcome State Fault Refusal :=
  if s.choose.isSome then .next (s.noteBoundary false) else s.goOn.pass false 1

/-- After the instruction's own effect: its stores into the bytes that follow, the segment edge, the lock between the iterations
of a repeated instruction, then time (`before` is the state the step began in, `s` that in which the instruction's bytes were
taken).
A halted machine and a WAIT look at the interrupts after every tick (45_processor_control.md R341, R342). -/
def State.afterEffect (before : State) (i : Instr) (fromQueue : Nat) (s : State) (flushed : Bool) (t : State) :
    Host.Outcome State Fault Refusal :=
  let u := ((s.settleAhead t flushed).segEdge i before.cpu).setLock (t.cpu.repActive.isSome && t.cpu.lockMark)
  if u.cpu.halted then u.pass u.cpu.boundary 1
  else if u.cpu.waiting then u.afterLook
  else u.finish (stepTicks before u fromQueue) u.cpu.boundary

/-- What follows the meaning of an instruction in its step. -/
def State.afterExec (before : State) (i : Instr) (fromQueue : Nat) (s : State) (o : Host.Outcome State Fault Refusal) :
    Host.Outcome State Fault Refusal :=
  match o with
  | .next t => before.afterEffect i fromQueue s ((progOf i s.cpu).flushes s) t
  | .fault r => .fault r
  | .refused r => .refused r

/-- Execute an instruction in the state `s`, its bytes taken: at once, or with the host's gaps between its accesses, under the
lock from the first gap on if it is marked so (50_pipeline_bus_timing.md R390, R411, R412). -/
def State.execStep (before : State) (i : Instr) (fromQueue : Nat) (s : State) : Host.Outcome State Fault Refusal :=
  if s.host.gaps.isEmpty then before.afterExec i fromQueue s (exec i s)
  else (progOf i s.cpu).runGaps (taskLocks s.cpu.lockMark (.instr i)) (s.setLock (s.biu.lockline || s.cpu.lockMark))
    (before.afterEffect i fromQueue s)

/-- An instruction under the LOCK mark waits, a tick a step, while the bus is with the DMA controller
(20_memory.md R104, 50_pipeline_bus_timing.md R410, R411). -/
def State.waitsForBus (s : State) : Bool := s.cpu.lockMark && decide (s.biu.t = .th)

/-- Fetch, decode and execute one instruction, or one mark that comes before one (30_encoding.md R121, R122). -/
def State.instrStep (s : State) : Host.Outcome State Fault Refusal :=
  if s.waitsForBus then s.pass false 1
  else match decode s.window with
    | .ok i rest =>
      let n := s.window.length - rest.length
      s.execStep i (min n s.biu.q.length) (s.consume n)
    | .rejected _ => .refused .undecodable

/-- Run an instruction again that is already decoded: an iteration of a repeated string instruction, or a WAIT. -/
def State.againStep (s : State) (i : Instr) : Host.Outcome State Fault Refusal := s.execStep i 0 s

/-- The execution unit is in the middle of something. -/
def State.busy (s : State) : Bool :=
  match s.eu.prog with
  | .idle => false
  | .fetch _ | .run _ _ _ => true

/-- The host has taken what the block handed out. -/
def State.clearOut (s : State) : State := { s with host := { s.host with out := [] } }

/-- The bytes the longest instruction at CS:IP may have are not answered by a handler of the host. -/
def Params.withoutHandlersAt (q : Params) (cs ip : Word) : Params :=
  { q with extMem := q.extMem.filter fun r =>
      (List.range longestInstr).all fun k => !r.contains (phys cs (ip + BitVec.ofNat 16 k)).toNat }

/-- The state whose next step fetches from the block's memory at CS:IP: nothing in progress, nothing queued, and nothing
recognised first. -/
def State.ready (s : State) : State :=
  let t := { s with
    cpu := { s.cpu with
      halted := false, waiting := false, stepPending := false, repActive := none, segOverride := none, repMark := none
      lockMark := false, prefixes := [] }
    biu := { s.biu with q := [] }
    eu := { s.eu with prog := .idle }
    host := { s.host with byTick := false }
    params := s.params.withoutHandlersAt s.cpu.cs s.cpu.ip }
  if t.choose = none then t else { t with cpu := { t.cpu with inhibit := .all } }

/-- A step in which nothing was recognised (43_string.md R277, 45_processor_control.md R341, R342). -/
def State.plainStep (s : State) : Host.Outcome State Fault Refusal :=
  if s.cpu.halted then s.pass false 1
  else match s.cpu.repActive with
    | some r => if s.waitsForBus then s.pass false 1 else s.againStep (stringOfOpcode r.opcode)
    | none => if s.cpu.waiting then s.againStep .wait else s.instrStep

end Sys2Proof.Machine
end

