-- ==== Sys2Proof/Machine/Step.lean ====
section
/-!
DEFINITION. One step of the machine, and the state whose next step runs a given instruction.
-/
namespace Sys2Proof.Machine

/-- One step: a tick when the execution unit is in the middle of something or the host steps by ticks (Level T), else one
Level A step: an interrupt entry, an instruction, a mark, an iteration, or a tick of waiting (00_scope.md R6;
60_exceptions.md R446). -/
def step (s : State) : Host.Outcome State Fault Refusal :=
  let t := s.clearOut
  if t.busy || t.host.byTick then t.tick
  else if t.cpu.midUnit then t.instrStep
  else match t.choose with
    | some k => t.enterStep k
    | none => t.goOn.plainStep

/-- `s` with an instruction of spec/opcode_table.json, its bits numbered as the table numbers them, where `step` fetches next
(DEDUCED and DESIGN CHOICE, log entries 4 and 7). -/
def State.withFetchWord (s : State) (nbits w : Nat) : State := s.ready.loadBytes s.cpu.cs s.cpu.ip (tableBytes nbits w)

end Sys2Proof.Machine
end

