-- ==== Sys2Proof/Safety.lean ====
section
/-!
DEFINITION. What counts as a safe state, and the words in which claims speak of a step's byte accesses, of its operands and
of what it leaves alone.
-/
namespace Sys2Proof.Machine

/-! ## The invariant -/

/-- The bus interface unit is sound (10_state.md R25; 50_pipeline_bus_timing.md R381, R387): the queue is bounded, a code
byte on its way has a free place, a cycle is in progress exactly in its own ticks, and the execution unit asks for no code. -/
def Biu.sound (b : Biu) : Prop :=
  b.q.length ≤ Config.queueSize ∧
  (∀ x, b.cur = some x → x.req.cycle = .code → x.discard = false → b.q.length < Config.queueSize) ∧
  (b.t.isCycle = b.cur.isSome) ∧
  (∀ r, b.eureq = some r → r.cycle ≠ .code)

/-- The DMA controller is sound: a transfer is in progress only while the CPU has granted the bus, and HRQ stands exactly
until its release point (63_dma.md R596, R598, R601). -/
def State.dmaSound (s : State) : Prop :=
  s.dma.active.isSome = true →
    s.biu.t = .th ∧ s.lines.hrq = (decide (1 < s.dma.dticks) || s.dma.blockHold)

/-- A safe state: memory in its canonical form, the queue and the bus sound, the vector base's low bits 0 (10_state.md R40),
the timer's phase below its divisor (10_state.md R46). -/
structure Inv (s : State) : Prop where
  mem : Memory.wf s.params.ramSize s.mem = true
  biu : s.biu.sound
  dma : s.dmaSound
  vbase : s.pic.vbase &&& 7 = 0
  phase : s.pit.phase < Config.pitDiv

/-! ## Byte accesses -/

/-- A state after some byte accesses in order (20_memory.md R94). -/
def State.performs (s : State) : List BusReq → State
  | [] => s
  | r :: rs => ((s.perform r).2).performs rs

/-- An access of memory, not of a port or the interrupt controller. -/
def BusReq.isMemory : BusReq → Bool
  | .code _ | .memR _ | .memW _ _ => true
  | .ioR _ | .ioW _ _ | .inta => false

/-- The address an access stores to, if it stores to memory. -/
def BusReq.stored : BusReq → Option Addr
  | .memW a _ => some a
  | .code _ | .memR _ | .ioR _ | .ioW _ _ | .inta => none

/-- Two addresses name the same byte of memory: they are equal, or the video window shows one byte twice
(20_memory.md R96). -/
def sameByte (a b : Addr) : Prop := cellKey a = cellKey b

/-! ## Operands -/

/-- What an access answers after some others (20_memory.md R94): a read of RAM or ROM the byte there, a read of a device what
the device says. -/
def State.readAfter (s : State) (rs : List BusReq) (r : BusReq) : Byte := ((s.performs rs).perform r).1

/-- What a read of a byte of memory answers now. -/
def State.byte (s : State) (seg off : Word) : Byte := s.readAfter [] (.memR (phys seg off))

/-- What the two reads of a word answer: the low byte first, the high byte at the next offset of the segment
(20_memory.md R83, R85, R86). -/
def State.word (s : State) (seg off : Word) : Word :=
  s.readAfter [.memR (phys seg off)] (.memR (phys seg (off + 1))) ++ s.byte seg off

/-- What the reads of the next word answer, after those of a word. -/
def State.word2 (s : State) (seg off : Word) : Word :=
  (s.performs [.memR (phys seg off), .memR (phys seg (off + 1))]).word seg (off + 2)

/-- What the reads of the third word answer, after those of two words. -/
def State.word3 (s : State) (seg off : Word) : Word :=
  (s.performs [.memR (phys seg off), .memR (phys seg (off + 1))]).word2 seg (off + 2)

/-- The two reads of a word (20_memory.md R86). -/
def wordReads (seg off : Word) : List BusReq := [.memR (phys seg off), .memR (phys seg (off + 1))]

/-- The two writes of a word (20_memory.md R87). -/
def wordWrites (seg off v : Word) : List BusReq :=
  [.memW (phys seg off) (v.setWidth 8), .memW (phys seg (off + 1)) (v.extractLsb' 8 8)]

/-- The value of a byte operand (30_encoding.md R132). -/
def State.operand8 (s : State) : RM8 → Byte
  | .reg r => s.cpu.r8 r
  | .mem m => s.byte (s.cpu.memSeg m) (s.cpu.offset m)

/-- The value of a word operand (30_encoding.md R132). -/
def State.operand16 (s : State) : RM16 → Word
  | .reg r => s.cpu.r16 r
  | .mem m => s.word (s.cpu.memSeg m) (s.cpu.offset m)

/-- The accesses that read a byte operand. -/
def Cpu.reads8 (c : Cpu) : RM8 → List BusReq
  | .reg _ => []
  | .mem m => [.memR (phys (c.memSeg m) (c.offset m))]

/-- The accesses that read a word operand. -/
def Cpu.reads16 (c : Cpu) : RM16 → List BusReq
  | .reg _ => []
  | .mem m => wordReads (c.memSeg m) (c.offset m)

/-- The accesses that write a byte operand. -/
def Cpu.writes8 (c : Cpu) (v : Byte) : RM8 → List BusReq
  | .reg _ => []
  | .mem m => [.memW (phys (c.memSeg m) (c.offset m)) v]

/-- The accesses that write a word operand. -/
def Cpu.writes16 (c : Cpu) (v : Word) : RM16 → List BusReq
  | .reg _ => []
  | .mem m => wordWrites (c.memSeg m) (c.offset m) v

/-- The registers after a byte operand is written: only a register destination changes them. -/
def Cpu.into8 (c : Cpu) (v : Byte) : RM8 → Cpu
  | .reg r => c.set8 r v
  | .mem _ => c

/-- The registers after a word operand is written: only a register destination changes them. -/
def Cpu.into16 (c : Cpu) (v : Word) : RM16 → Cpu
  | .reg r => c.set16 r v
  | .mem _ => c

/-- The fields of the CPU that no instruction of the plain kind changes: those of interrupt recognition. -/
def Cpu.sameHidden (c d : Cpu) : Prop :=
  c.inhibit = d.inhibit ∧ c.halted = d.halted ∧ c.waiting = d.waiting ∧ c.tfAtStart = d.tfAtStart ∧
    c.stepPending = d.stepPending

/-! ## Instructions by operation -/

/-- The eight operations in the form Eb,Gb (41_arithmetic.md R231). -/
def aluEbGb : AluOp → RM8 → Reg8 → Instr
  | .add => .addEbGb | .or => .orEbGb | .adc => .adcEbGb | .sbb => .sbbEbGb
  | .and => .andEbGb | .sub => .subEbGb | .xor => .xorEbGb | .cmp => .cmpEbGb

/-- The eight operations in the form Ev,Gv (41_arithmetic.md R231). -/
def aluEvGv : AluOp → RM16 → Reg16 → Instr
  | .add => .addEvGv | .or => .orEvGv | .adc => .adcEvGv | .sbb => .sbbEvGv
  | .and => .andEvGv | .sub => .subEvGv | .xor => .xorEvGv | .cmp => .cmpEvGv

/-- The eight operations in the form Gb,Eb (41_arithmetic.md R231). -/
def aluGbEb : AluOp → Reg8 → RM8 → Instr
  | .add => .addGbEb | .or => .orGbEb | .adc => .adcGbEb | .sbb => .sbbGbEb
  | .and => .andGbEb | .sub => .subGbEb | .xor => .xorGbEb | .cmp => .cmpGbEb

/-- The eight operations in the form Gv,Ev (41_arithmetic.md R231). -/
def aluGvEv : AluOp → Reg16 → RM16 → Instr
  | .add => .addGvEv | .or => .orGvEv | .adc => .adcGvEv | .sbb => .sbbGvEv
  | .and => .andGvEv | .sub => .subGvEv | .xor => .xorGvEv | .cmp => .cmpGvEv

/-- The eight operations in the form AL,Ib (41_arithmetic.md R231). -/
def aluALIb : AluOp → Byte → Instr
  | .add => .addALIb | .or => .orALIb | .adc => .adcALIb | .sbb => .sbbALIb
  | .and => .andALIb | .sub => .subALIb | .xor => .xorALIb | .cmp => .cmpALIb

/-- The eight operations in the form AX,Iv (41_arithmetic.md R231). -/
def aluAXIv : AluOp → Word → Instr
  | .add => .addAXIv | .or => .orAXIv | .adc => .adcAXIv | .sbb => .sbbAXIv
  | .and => .andAXIv | .sub => .subAXIv | .xor => .xorAXIv | .cmp => .cmpAXIv

/-- The eight operations in the form Eb,Ib, opcode 80 (41_arithmetic.md R231). -/
def aluEbIb : AluOp → RM8 → Byte → Instr
  | .add => .addEbIb | .or => .orEbIb | .adc => .adcEbIb | .sbb => .sbbEbIb
  | .and => .andEbIb | .sub => .subEbIb | .xor => .xorEbIb | .cmp => .cmpEbIb

/-- The eight operations in the form Eb,Ib, opcode 82 (41_arithmetic.md R231). -/
def aluEbIb82 : AluOp → RM8 → Byte → Instr
  | .add => .addEbIb82 | .or => .orEbIb82 | .adc => .adcEbIb82 | .sbb => .sbbEbIb82
  | .and => .andEbIb82 | .sub => .subEbIb82 | .xor => .xorEbIb82 | .cmp => .cmpEbIb82

/-- The eight operations in the form Ev,Iv (41_arithmetic.md R231). -/
def aluEvIv : AluOp → RM16 → Word → Instr
  | .add => .addEvIv | .or => .orEvIv | .adc => .adcEvIv | .sbb => .sbbEvIv
  | .and => .andEvIv | .sub => .subEvIv | .xor => .xorEvIv | .cmp => .cmpEvIv

/-- The eight operations in the form Ev,Ib sign-extended (41_arithmetic.md R231). -/
def aluEvIbs : AluOp → RM16 → Byte → Instr
  | .add => .addEvIbs | .or => .orEvIbs | .adc => .adcEvIbs | .sbb => .sbbEvIbs
  | .and => .andEvIbs | .sub => .subEvIbs | .xor => .xorEvIbs | .cmp => .cmpEvIbs

/-- The seven shifts and rotates of a byte by 1 (42_logic_shift.md R248). -/
def shiftEb1 : ShiftOp → RM8 → Instr
  | .rol => .rolEb1 | .ror => .rorEb1 | .rcl => .rclEb1 | .rcr => .rcrEb1
  | .shl => .shlEb1 | .shr => .shrEb1 | .sar => .sarEb1

/-- The seven shifts and rotates of a byte by CL (42_logic_shift.md R248). -/
def shiftEbCL : ShiftOp → RM8 → Instr
  | .rol => .rolEbCL | .ror => .rorEbCL | .rcl => .rclEbCL | .rcr => .rcrEbCL
  | .shl => .shlEbCL | .shr => .shrEbCL | .sar => .sarEbCL

/-- The seven shifts and rotates of a word by 1 (42_logic_shift.md R248). -/
def shiftEv1 : ShiftOp → RM16 → Instr
  | .rol => .rolEv1 | .ror => .rorEv1 | .rcl => .rclEv1 | .rcr => .rcrEv1
  | .shl => .shlEv1 | .shr => .shrEv1 | .sar => .sarEv1

/-- The seven shifts and rotates of a word by CL (42_logic_shift.md R248). -/
def shiftEvCL : ShiftOp → RM16 → Instr
  | .rol => .rolEvCL | .ror => .rorEvCL | .rcl => .rclEvCL | .rcr => .rcrEvCL
  | .shl => .shlEvCL | .shr => .shrEvCL | .sar => .sarEvCL

/-- The encodings the spec leaves undefined (30_encoding.md R151). -/
def isUndefined : Instr → Bool
  | .undefLea _ _ => true
  | .undef8F1 _ => true
  | .undef8F2 _ => true
  | .undef8F3 _ => true
  | .undef8F4 _ => true
  | .undef8F5 _ => true
  | .undef8F6 _ => true
  | .undef8F7 _ => true
  | .undefLes _ _ => true
  | .undefLds _ _ => true
  | .undefC61 _ _ => true
  | .undefC62 _ _ => true
  | .undefC63 _ _ => true
  | .undefC64 _ _ => true
  | .undefC65 _ _ => true
  | .undefC66 _ _ => true
  | .undefC67 _ _ => true
  | .undefC71 _ _ => true
  | .undefC72 _ _ => true
  | .undefC73 _ _ => true
  | .undefC74 _ _ => true
  | .undefC75 _ _ => true
  | .undefC76 _ _ => true
  | .undefC77 _ _ => true
  | .undefD06 _ => true
  | .undefD16 _ => true
  | .undefD26 _ => true
  | .undefD36 _ => true
  | .undefFE2 _ => true
  | .undefFE3 _ => true
  | .undefFE4 _ => true
  | .undefFE5 _ => true
  | .undefFE6 _ => true
  | .undefFE7 _ => true
  | .undefFF3 _ => true
  | .undefFF5 _ => true
  | .undefFF7 _ => true
  | _ => false
/-! ## The rules' own words -/

/-- The state after some accesses, with which an instruction ends that sets the CPU to `c`. -/
def State.ends (s : State) (rs : List BusReq) (c : Cpu) : State := (s.performs rs).retire c

/-- The state after some accesses, with which a control transfer ends that sets the CPU to `c`: the queue is flushed
(44_control_transfer.md R289). -/
def State.jumps (s : State) (rs : List BusReq) (c : Cpu) : State := (s.performs rs).transfer c

/-- The number of 1 bits among the low eight (10_state.md R20). -/
def onesBelow8 {n : Nat} (v : BitVec n) : Nat := ((List.range 8).filter fun i => v.getLsbD i).length

/-- `SetSZP(N, r)` as the rule words it (10_state.md R20, R21). -/
def Flags.withSzp {n : Nat} (f : Flags) (r : BitVec n) : Flags :=
  { f with sf := r.getLsbD (n - 1), zf := decide (r.toNat = 0), pf := decide (onesBelow8 r % 2 = 0) }

/-- The result of `dst OP src` as the rules word it, on numbers (41_arithmetic.md R200 to R204, 42_logic_shift.md R240 to
R242). -/
def aluResult {n : Nat} (op : AluOp) (cf : Bool) (a b : BitVec n) : BitVec n :=
  match op with
  | .add => BitVec.ofNat n (a.toNat + b.toNat)
  | .adc => BitVec.ofNat n (a.toNat + b.toNat + bitOf cf)
  | .sub | .cmp => BitVec.ofInt n (a.toNat - b.toNat)
  | .sbb => BitVec.ofInt n (a.toNat - b.toNat - bitOf cf)
  | .and => a &&& b
  | .or => a ||| b
  | .xor => a ^^^ b

/-- The carry, auxiliary carry and overflow of an addition as the rule words them (10_state.md R22). -/
def Flags.afterAdd {n : Nat} (f : Flags) (a b r : BitVec n) (cin : Nat) : Flags :=
  { f with
    cf := decide (2 ^ n ≤ a.toNat + b.toNat + cin), af := (a ^^^ b ^^^ r).getLsbD 4
    ovf := decide (a.getLsbD (n - 1) = b.getLsbD (n - 1)) && decide (r.getLsbD (n - 1) ≠ a.getLsbD (n - 1)) }.withSzp r

/-- The borrow, auxiliary borrow and overflow of a subtraction as the rule words them (10_state.md R23). -/
def Flags.afterSub {n : Nat} (f : Flags) (a b r : BitVec n) (bin : Nat) : Flags :=
  { f with
    cf := decide (a.toNat < b.toNat + bin), af := (a ^^^ b ^^^ r).getLsbD 4
    ovf := decide (a.getLsbD (n - 1) ≠ b.getLsbD (n - 1)) && decide (r.getLsbD (n - 1) ≠ a.getLsbD (n - 1)) }.withSzp r

/-- The flags of a logic operation as the rule words them, AF free (10_state.md R24). -/
def Flags.afterLogic {n : Nat} (f : Flags) (r : BitVec n) (free : Bool) : Flags :=
  { f with cf := false, ovf := false, af := free }.withSzp r

/-- The CPU after the flags of `dst OP src` are set, as the rules word them; a logic operation draws AF. -/
def Cpu.afterAlu {n : Nat} (c : Cpu) (op : AluOp) (a b : BitVec n) : Cpu :=
  let r := aluResult op c.flags.cf a b
  match op with
  | .add => { c with flags := c.flags.afterAdd a b r 0 }
  | .adc => { c with flags := c.flags.afterAdd a b r (bitOf c.flags.cf) }
  | .sub | .cmp => { c with flags := c.flags.afterSub a b r 0 }
  | .sbb => { c with flags := c.flags.afterSub a b r (bitOf c.flags.cf) }
  | .and | .or | .xor => { c with flags := c.flags.afterLogic r (Config.freeBit c.draws), draws := c.draws + 8 }

/-- The accesses of a byte operation that writes `v` to its operand, but for CMP, which writes nothing. -/
def Cpu.writesUnlessCmp8 (c : Cpu) (op : AluOp) (v : Byte) (rm : RM8) : List BusReq :=
  if op = .cmp then [] else c.writes8 v rm

/-- The accesses of a word operation that writes `v` to its operand, but for CMP, which writes nothing. -/
def Cpu.writesUnlessCmp16 (c : Cpu) (op : AluOp) (v : Word) (rm : RM16) : List BusReq :=
  if op = .cmp then [] else c.writes16 v rm

/-- The registers after a byte operation writes `v` to its operand, but for CMP. -/
def Cpu.intoUnlessCmp8 (c : Cpu) (op : AluOp) (v : Byte) (rm : RM8) : Cpu := if op = .cmp then c else c.into8 v rm

/-- The registers after a word operation writes `v` to its operand, but for CMP. -/
def Cpu.intoUnlessCmp16 (c : Cpu) (op : AluOp) (v : Word) (rm : RM16) : Cpu := if op = .cmp then c else c.into16 v rm

/-- The next state of `op` on a byte operand with a source byte (41_arithmetic.md R231). -/
def State.aluTo8 (s : State) (op : AluOp) (rm : RM8) (b : Byte) : State :=
  let a := s.operand8 rm
  let v := aluResult op s.cpu.flags.cf a b
  s.ends (s.cpu.reads8 rm ++ s.cpu.writesUnlessCmp8 op v rm) ((s.cpu.afterAlu op a b).intoUnlessCmp8 op v rm)

/-- The next state of `op` on a word operand with a source word (41_arithmetic.md R231). -/
def State.aluTo16 (s : State) (op : AluOp) (rm : RM16) (b : Word) : State :=
  let a := s.operand16 rm
  let v := aluResult op s.cpu.flags.cf a b
  s.ends (s.cpu.reads16 rm ++ s.cpu.writesUnlessCmp16 op v rm) ((s.cpu.afterAlu op a b).intoUnlessCmp16 op v rm)

/-! ## Strings -/

/-- The ten string instructions by operation and width (43_string.md R270 to R274). -/
def stringOf : StringOp → (wide : Bool) → Instr
  | .movs, false => .movsb | .movs, true => .movsw | .cmps, false => .cmpsb | .cmps, true => .cmpsw
  | .scas, false => .scasb | .scas, true => .scasw | .lods, false => .lodsb | .lods, true => .lodsw
  | .stos, false => .stosb | .stos, true => .stosw

/-- Their opcodes (43_string.md R270 to R274). -/
def stringCode : StringOp → (wide : Bool) → Byte
  | .movs, false => 0xA4 | .movs, true => 0xA5 | .cmps, false => 0xA6 | .cmps, true => 0xA7
  | .stos, false => 0xAA | .stos, true => 0xAB | .lods, false => 0xAC | .lods, true => 0xAD
  | .scas, false => 0xAE | .scas, true => 0xAF

/-- By what an element moves an index: 1 or 2, down if DF is set (43_string.md R275). -/
def Cpu.stride (c : Cpu) (wide : Bool) : Word :=
  match c.flags.df, wide with
  | false, false => 1 | false, true => 2 | true, false => 0xFFFF | true, true => 0xFFFE

/-- The accesses of one element and the CPU after it, as the rules word them (43_string.md R270 to R275). -/
def State.element (s : State) (op : StringOp) (wide : Bool) : List BusReq × Cpu :=
  let c := s.cpu
  let src := c.seg (c.segOverride.getD .ds)
  let a8 := s.byte src c.si
  let a16 := s.word src c.si
  let si := c.si + c.stride wide
  let di := c.di + c.stride wide
  match op, wide with
  | .movs, false => ([.memR (phys src c.si), .memW (phys c.es c.di) a8], { c with si := si, di := di })
  | .movs, true => (wordReads src c.si ++ wordWrites c.es c.di a16, { c with si := si, di := di })
  | .cmps, false => let b8 := (s.performs [.memR (phys src c.si)]).byte c.es c.di
    ([.memR (phys src c.si), .memR (phys c.es c.di)],
      { c with flags := c.flags.afterSub a8 b8 (BitVec.ofInt 8 (a8.toNat - b8.toNat)) 0, si := si, di := di })
  | .cmps, true => let b16 := (s.performs (wordReads src c.si)).word c.es c.di
    (wordReads src c.si ++ wordReads c.es c.di,
      { c with flags := c.flags.afterSub a16 b16 (BitVec.ofInt 16 (a16.toNat - b16.toNat)) 0, si := si, di := di })
  | .scas, false => let b8 := s.byte c.es c.di
    ([.memR (phys c.es c.di)],
      { c with flags := c.flags.afterSub (c.r8 .al) b8 (BitVec.ofInt 8 ((c.r8 .al).toNat - b8.toNat)) 0, di := di })
  | .scas, true => let b16 := s.word c.es c.di
    (wordReads c.es c.di,
      { c with flags := c.flags.afterSub c.ax b16 (BitVec.ofInt 16 (c.ax.toNat - b16.toNat)) 0, di := di })
  | .lods, false => ([.memR (phys src c.si)], { c.set8 .al a8 with si := si })
  | .lods, true => (wordReads src c.si, { c with ax := a16, si := si })
  | .stos, false => ([.memW (phys c.es c.di) (c.r8 .al)], { c with di := di })
  | .stos, true => (wordWrites c.es c.di c.ax, { c with di := di })

/-- An instruction executed some times over. -/
def State.again (i : Instr) : Nat → State → State
  | 0, s => s
  | k + 1, s =>
    match exec i s with
    | .next t => t.again i k
    | .fault _ => s
    | .refused _ => s

/-! ## Addresses and interrupt entries -/

/-- The offset of a memory operand as a sum of numbers (30_encoding.md R125, R131). -/
def Cpu.offsetSum (c : Cpu) (m : Mem) : Int :=
  let base : Base → Int
    | .bxsi => c.bx.toNat + c.si.toNat | .bxdi => c.bx.toNat + c.di.toNat
    | .bpsi => c.bp.toNat + c.si.toNat | .bpdi => c.bp.toNat + c.di.toNat
    | .si => c.si.toNat | .di => c.di.toNat | .bp => c.bp.toNat | .bx => c.bx.toNat
  match m with
  | .noDisp b => base b
  | .direct d => d.toNat
  | .disp8 b d => base b + d.toInt
  | .disp16 b d => base b + d.toNat

/-- The six bytes an interrupt entry pushes: the image, CS, the return offset (60_exceptions.md R436). -/
def Cpu.frame (c : Cpu) (ip : Word) : List BusReq :=
  wordWrites c.ss (c.sp - 2) c.flags.image ++ wordWrites c.ss (c.sp - 4) c.cs ++ wordWrites c.ss (c.sp - 6) ip

/-- The state after an interrupt entry through vector `n` that saves the offset `ip` (60_exceptions.md R433, R436). -/
def State.entered (s : State) (n : Byte) (ip : Word) (c : Cpu) : State :=
  let t := s.performs (c.frame ip)
  let slot := fun k : Nat => BusReq.memR (BitVec.ofNat 20 (4 * n.toNat + k))
  t.jumps [slot 0, slot 1, slot 2, slot 3]
    { c with
      ip := t.readAfter [slot 0] (slot 1) ++ t.readAfter [] (slot 0)
      cs := t.readAfter [slot 0, slot 1, slot 2] (slot 3) ++ t.readAfter [slot 0, slot 1] (slot 2), sp := c.sp - 6
      flags := { c.flags with ifl := false, tf := false }, halted := false, waiting := false }

/-! ## Reset and the devices -/

/-- A freshly reset machine, by the table of the rule (70_reset_and_hazards.md R700). -/
structure State.AfterReset (s : State) : Prop where
  segments : s.cpu.cs = 0xFFFF ∧ s.cpu.ds = 0 ∧ s.cpu.es = 0 ∧ s.cpu.ss = 0 ∧ s.cpu.ip = 0
  flags : s.cpu.flags.image = 0xF002
  general : ∀ r, s.cpu.r16 r = 0
  hidden : s.nmi.latch = false ∧ s.nmi.prev = false ∧ s.cpu.inhibit = .none ∧ s.cpu.halted = false ∧
    s.cpu.tfAtStart = false ∧ s.cpu.repActive = none ∧ s.cpu.segOverride = none ∧ s.cpu.repMark = none ∧
    s.cpu.lockMark = false ∧ s.cpu.prefixes = []
  bus : s.biu = Biu.reset ∧ s.pfp = 0
  eu : s.eu.prog = .idle ∧ s.eu.wait = 0
  lines : s.lines = Lines.reset
  pic : s.pic.imr = 0xFF ∧ s.pic.imrEff = 0xFF ∧ s.pic.irr = 0 ∧ s.pic.isr = 0 ∧ s.pic.intr = false ∧
    s.pic.lowest = 7 ∧ s.pic.vbase = 0 ∧ s.pic.ltim = false ∧ s.pic.init = .ready ∧ s.pic = Pic.reset
  pit : s.pit.phase = 0 ∧ ∀ c ∈ [s.pit.c0, s.pit.c1, s.pit.c2], c.mode = none ∧ c.run = false ∧ c.outv = false ∧
    c.latched = false ∧ c.rdHi = false ∧ c.wrHi = false ∧ c = PitChannel.reset
  dma : s.dma.dmask = 15 ∧ s.dma.ff = false ∧ s.dma.tcBits = 0 ∧ s.dma.sreq = 0 ∧ s.dma.active = none ∧
    s.dma.cmd = 0 ∧ s.dma.temp = 0 ∧ s.dma.dticks = 0 ∧ s.dma.blockHold = false ∧ s.dma.refreshReq = false ∧
    s.dma.out1Prev = false ∧ s.dma.hrq 0 = false ∧
    ∀ c, s.dma.channel c = { baseAddr := 0, baseCnt := 0, curAddr := 0, curCnt := 0, dmode := 0, page := 0 }
  ppi : s.ppi.pctrl = 0x9B ∧ s.ppi.paOut = 0 ∧ s.ppi.pbOut = 0 ∧ s.ppi.pcOut = 0 ∧ s.ppi.kbByte = 0 ∧ s.ppi.kbFull = false
  video : s.video = Video.reset ∧ s.video.clkMode = .charClocked ∧ s.video.charWidth = 16

/-- A timer channel after some timer ticks, the gate high; `w` and `b` are the free values it would draw. -/
def PitChannel.after (w : Word) (b : Bool) : Nat → PitChannel → PitChannel
  | 0, c => c
  | k + 1, c => (c.timerTick true w b).after w b k

/-- The number a reload value stands for: 0 counts as 65536 (62_pit.md R530). -/
def PitChannel.number (c : PitChannel) : Nat := if c.cr = 0 then 65536 else c.cr.toNat

/-- A DMA channel's registers after some transfers. -/
def DmaChannel.after : Nat → DmaChannel → DmaChannel
  | 0, h => h
  | k + 1, h => h.advance.after k

/-- The address of a DMA channel after `k` steps in its direction (63_dma.md R600). -/
def DmaChannel.moved (h : DmaChannel) (k : Nat) : Word :=
  if h.down then h.curAddr - BitVec.ofNat 16 k else h.curAddr + BitVec.ofNat 16 k

/-- The video counters after some character clocks. -/
def Video.after : Nat → Video → Video
  | 0, v => v
  | k + 1, v => v.characterClock.after k

end Sys2Proof.Machine
end

