-- ==== Sys2Proof/Certificates/Slice0/Obligations.lean ====
section
/-!
DEFINITION. The statements for the provers, family by family.
A next state is written with the accesses the instruction makes, in order (`State.performs`), and the CPU it leaves; every
other part of the state is then the one the accesses left.
-/
open Sys2Proof Sys2Proof.Machine

/-! ## Encoding -/

/-- Bytes written out from the spec's own examples decode to the instructions they stand for
(30_encoding.md R122, R125, R140, R142, R143, R145, R151). -/
def Obligations.WrittenWordsDecode : Prop :=
  decode [0xB8, 0x34, 0x12] = .ok (.movReg16Iv .ax 0x1234) [] ∧
  decode [0xEA, 0x5B, 0xE0, 0x00, 0xF0] = .ok (.jmpAp 0xE05B 0xF000) [] ∧
  decode [0x8D, 0x40, 0x10] = .ok (.lea .ax (.disp8 .bxsi 0x10)) [] ∧
  decode [0xFF, 0x36, 0x00, 0x02] = .ok (.pushEv (.mem (.direct 0x0200))) [] ∧
  decode [0xF6, 0xF3] = .ok (.divEb (.reg .bl)) [] ∧
  decode [0xD0, 0xE0] = .ok (.shlEb1 (.reg .al)) [] ∧
  decode [0xF3] = .ok .rep [] ∧
  decode [0xA4] = .ok .movsb [] ∧
  decode [0xD9, 0x06, 0x00, 0x02] = .ok (.esc .o1 .o0 (.mem (.direct 0x0200))) [] ∧
  decode [0xFF, 0xD8] = .ok (.undefFF3 .ax) []

/-- Every instruction that has an encoding is what its encoding decodes to, whatever bytes follow (30_encoding.md R120, R129,
R140). -/
def Obligations.DecodeEncode : Prop :=
  ∀ (i : Instr) (rest : List Byte), i.wf = true → decode (encode i ++ rest) = .ok i rest

/-- Whatever decodes is the encoding of the instruction it decodes to, followed by the bytes that were not taken: decoding
drops no bit, and no two encodings share one instruction (30_encoding.md R140). -/
def Obligations.EncodeDecode : Prop :=
  ∀ (bs : List Byte) (i : Instr) (rest : List Byte), decode bs = .ok i rest → i.wf = true ∧ encode i ++ rest = bs

/-- Six bytes always hold an instruction or a mark: no encoding is rejected (30_encoding.md R147, R129). -/
def Obligations.NoEncodingRejected : Prop :=
  ∀ bs : List Byte, longestInstr ≤ bs.length → ∃ i rest, decode bs = .ok i rest

/-! ## The flags -/

/-- The flags of an addition and of a subtraction are those the rules give, in both widths, AF in both wordings
(10_state.md R20 to R23). -/
def Obligations.AddSubFlags : Prop :=
  (∀ (f : Flags) (a b : BitVec 8) (c : Bool),
    f.add a b c = f.afterAdd a b (BitVec.ofNat 8 (a.toNat + b.toNat + bitOf c)) (bitOf c) ∧
    (f.add a b c).af = decide (16 ≤ a.toNat % 16 + b.toNat % 16 + bitOf c) ∧
    f.sub a b c = f.afterSub a b (BitVec.ofInt 8 (a.toNat - b.toNat - bitOf c)) (bitOf c) ∧
    (f.sub a b c).af = decide (a.toNat % 16 < b.toNat % 16 + bitOf c)) ∧
  (∀ (f : Flags) (a b : BitVec 16) (c : Bool),
    f.add a b c = f.afterAdd a b (BitVec.ofNat 16 (a.toNat + b.toNat + bitOf c)) (bitOf c) ∧
    (f.add a b c).af = decide (16 ≤ a.toNat % 16 + b.toNat % 16 + bitOf c) ∧
    f.sub a b c = f.afterSub a b (BitVec.ofInt 16 (a.toNat - b.toNat - bitOf c)) (bitOf c) ∧
    (f.sub a b c).af = decide (a.toNat % 16 < b.toNat % 16 + bitOf c))

/-- A write of an image takes the nine flag bits and ignores the others; a read gives them, each in its place, with the fixed
bits (10_state.md R15). -/
def Obligations.FlagsImage : Prop :=
  (∀ f : Flags, f.image.getLsbD 0 = f.cf ∧ f.image.getLsbD 2 = f.pf ∧ f.image.getLsbD 4 = f.af ∧
    f.image.getLsbD 6 = f.zf ∧ f.image.getLsbD 7 = f.sf ∧ f.image.getLsbD 8 = f.tf ∧ f.image.getLsbD 9 = f.ifl ∧
    f.image.getLsbD 10 = f.df ∧ f.image.getLsbD 11 = f.ovf) ∧
  (∀ f : Flags, Flags.ofImage f.image = f) ∧
  (∀ v : Word, (Flags.ofImage v).image = (v &&& 0x0FD5) ||| 0xF002) ∧
  Flags.clear.image = 0xF002

/-! ## Arithmetic and logic -/

/-- The eight two-operand operations in all their forms: operands read, flags set, result written, in this order
(41_arithmetic.md R231, R200 to R204; 42_logic_shift.md R240 to R242).
The order in which free values are drawn is the model's own (log entry 1). -/
def Obligations.TwoOperandForms : Prop :=
  ∀ (op : AluOp) (s : State),
    (∀ rm reg, exec (aluEbGb op rm reg) s = .next (s.aluTo8 op rm (s.cpu.r8 reg))) ∧
    (∀ rm reg, exec (aluEvGv op rm reg) s = .next (s.aluTo16 op rm (s.cpu.r16 reg))) ∧
    (∀ imm, exec (aluALIb op imm) s = .next (s.aluTo8 op (.reg .al) imm)) ∧
    (∀ imm, exec (aluAXIv op imm) s = .next (s.aluTo16 op (.reg .ax) imm)) ∧
    (∀ rm imm, exec (aluEbIb op rm imm) s = .next (s.aluTo8 op rm imm)) ∧
    (∀ rm imm, exec (aluEbIb82 op rm imm) s = .next (s.aluTo8 op rm imm)) ∧
    (∀ rm imm, exec (aluEvIv op rm imm) s = .next (s.aluTo16 op rm imm)) ∧
    (∀ rm imm, exec (aluEvIbs op rm imm) s = .next (s.aluTo16 op rm (imm.signExtend 16)))

/-- The two forms whose destination is a register and whose source may be in memory (41_arithmetic.md R231).
The order in which free values are drawn is the model's own (log entry 1). -/
def Obligations.RegisterDestinationForms : Prop :=
  ∀ (op : AluOp) (s : State),
    (∀ reg rm, exec (aluGbEb op reg rm) s = .next (s.ends (s.cpu.reads8 rm)
      ((s.cpu.afterAlu op (s.cpu.r8 reg) (s.operand8 rm)).intoUnlessCmp8 op
        (aluResult op s.cpu.flags.cf (s.cpu.r8 reg) (s.operand8 rm)) (.reg reg)))) ∧
    (∀ reg rm, exec (aluGvEv op reg rm) s = .next (s.ends (s.cpu.reads16 rm)
      ((s.cpu.afterAlu op (s.cpu.r16 reg) (s.operand16 rm)).intoUnlessCmp16 op
        (aluResult op s.cpu.flags.cf (s.cpu.r16 reg) (s.operand16 rm)) (.reg reg))))

/-- TEST in all its forms: flags of the conjunction, nothing written (42_logic_shift.md R243).
The order in which free values are drawn is the model's own (log entry 1). -/
def Obligations.TestForms : Prop :=
  ∀ s : State,
    let after8 := fun (rm : RM8) (b : Byte) => s.ends (s.cpu.reads8 rm) (s.cpu.afterAlu .and (s.operand8 rm) b)
    let after16 := fun (rm : RM16) (b : Word) => s.ends (s.cpu.reads16 rm) (s.cpu.afterAlu .and (s.operand16 rm) b)
    (∀ rm reg, exec (.testEbGb rm reg) s = .next (after8 rm (s.cpu.r8 reg))) ∧
    (∀ rm reg, exec (.testEvGv rm reg) s = .next (after16 rm (s.cpu.r16 reg))) ∧
    (∀ imm, exec (.testALIb imm) s = .next (after8 (.reg .al) imm)) ∧
    (∀ imm, exec (.testAXIv imm) s = .next (after16 (.reg .ax) imm)) ∧
    (∀ rm imm, exec (.testEbIb rm imm) s = .next (after8 rm imm) ∧ exec (.testEbIb1 rm imm) s = .next (after8 rm imm)) ∧
    (∀ rm imm, exec (.testEvIv rm imm) s = .next (after16 rm imm) ∧ exec (.testEvIv1 rm imm) s = .next (after16 rm imm))

/-- INC and DEC: the result and the flags of adding or subtracting 1, CF unchanged (41_arithmetic.md R205, R206). -/
def Obligations.IncDec : Prop :=
  ∀ s : State,
    let inc8 := fun a : Byte => { s.cpu.flags.afterAdd a 1 (BitVec.ofNat 8 (a.toNat + 1)) 0 with cf := s.cpu.flags.cf }
    let inc16 := fun a : Word => { s.cpu.flags.afterAdd a 1 (BitVec.ofNat 16 (a.toNat + 1)) 0 with cf := s.cpu.flags.cf }
    let dec8 := fun a : Byte => { s.cpu.flags.afterSub a 1 (BitVec.ofInt 8 (a.toNat - 1)) 0 with cf := s.cpu.flags.cf }
    let dec16 := fun a : Word => { s.cpu.flags.afterSub a 1 (BitVec.ofInt 16 (a.toNat - 1)) 0 with cf := s.cpu.flags.cf }
    let to8 := fun (rm : RM8) (v : Byte) (f : Flags) =>
      s.ends (s.cpu.reads8 rm ++ s.cpu.writes8 v rm) ({ s.cpu with flags := f }.into8 v rm)
    let to16 := fun (rm : RM16) (v : Word) (f : Flags) =>
      s.ends (s.cpu.reads16 rm ++ s.cpu.writes16 v rm) ({ s.cpu with flags := f }.into16 v rm)
    (∀ rm, exec (.incEb rm) s = .next (to8 rm (BitVec.ofNat 8 ((s.operand8 rm).toNat + 1)) (inc8 (s.operand8 rm)))) ∧
    (∀ rm, exec (.incEv rm) s = .next (to16 rm (BitVec.ofNat 16 ((s.operand16 rm).toNat + 1)) (inc16 (s.operand16 rm)))) ∧
    (∀ r, exec (.incReg16 r) s = .next (to16 (.reg r) (BitVec.ofNat 16 ((s.cpu.r16 r).toNat + 1)) (inc16 (s.cpu.r16 r)))) ∧
    (∀ rm, exec (.decEb rm) s = .next (to8 rm (BitVec.ofInt 8 ((s.operand8 rm).toNat - 1)) (dec8 (s.operand8 rm)))) ∧
    (∀ rm, exec (.decEv rm) s = .next (to16 rm (BitVec.ofInt 16 ((s.operand16 rm).toNat - 1)) (dec16 (s.operand16 rm)))) ∧
    (∀ r, exec (.decReg16 r) s = .next (to16 (.reg r) (BitVec.ofInt 16 ((s.cpu.r16 r).toNat - 1)) (dec16 (s.cpu.r16 r))))

/-- NEG subtracts from 0 and sets the flags of that; NOT flips every bit and sets none (41_arithmetic.md R207,
42_logic_shift.md R244). -/
def Obligations.NegNot : Prop :=
  ∀ s : State,
    (∀ rm, let a := s.operand8 rm
      let v := BitVec.ofInt 8 (0 - a.toNat)
      exec (.negEb rm) s = .next (s.ends (s.cpu.reads8 rm ++ s.cpu.writes8 v rm)
        ({ s.cpu with flags := s.cpu.flags.afterSub 0 a v 0 }.into8 v rm)) ∧
      (s.cpu.flags.afterSub 0 a v 0).cf = decide (a ≠ 0)) ∧
    (∀ rm, let a := s.operand16 rm
      let v := BitVec.ofInt 16 (0 - a.toNat)
      exec (.negEv rm) s = .next (s.ends (s.cpu.reads16 rm ++ s.cpu.writes16 v rm)
        ({ s.cpu with flags := s.cpu.flags.afterSub 0 a v 0 }.into16 v rm)) ∧
      (s.cpu.flags.afterSub 0 a v 0).cf = decide (a ≠ 0)) ∧
    (∀ rm, let v := s.operand8 rm ^^^ 0xFF
      exec (.notEb rm) s = .next (s.ends (s.cpu.reads8 rm ++ s.cpu.writes8 v rm) (s.cpu.into8 v rm))) ∧
    (∀ rm, let v := s.operand16 rm ^^^ 0xFFFF
      exec (.notEv rm) s = .next (s.ends (s.cpu.reads16 rm ++ s.cpu.writes16 v rm) (s.cpu.into16 v rm)))

/-- ROL and ROR in closed form: a rotation by the count modulo the width, CF the bit that came round
(42_logic_shift.md R250, R251). -/
def Obligations.RotateClosedForm : Prop :=
  ∀ (n : Nat) (c : Nat) (cf : Bool) (a : BitVec n), 0 < n →
    ((ShiftOp.rol.steps c (cf, a)).2 = a.rotateLeft (c % n)) ∧
    ((ShiftOp.ror.steps c (cf, a)).2 = a.rotateRight (c % n)) ∧
    (1 ≤ c → (ShiftOp.rol.steps c (cf, a)).1 = (ShiftOp.rol.steps c (cf, a)).2.getLsbD 0 ∧
      (ShiftOp.ror.steps c (cf, a)).1 = (ShiftOp.ror.steps c (cf, a)).2.getLsbD (n - 1))

/-- RCL and RCR in closed form: CF and the operand, taken as one number with CF on top, are rotated by the count modulo the
width plus one (42_logic_shift.md R252, R253). -/
def Obligations.RotateThroughCarryClosedForm : Prop :=
  ∀ (n : Nat) (c : Nat) (cf : Bool) (a : BitVec n), 0 < n →
    (BitVec.cons (ShiftOp.rcl.steps c (cf, a)).1 (ShiftOp.rcl.steps c (cf, a)).2 =
      (BitVec.cons cf a).rotateLeft (c % (n + 1))) ∧
    (BitVec.cons (ShiftOp.rcr.steps c (cf, a)).1 (ShiftOp.rcr.steps c (cf, a)).2 =
      (BitVec.cons cf a).rotateRight (c % (n + 1)))

/-- SHL, SHR and SAR in closed form, with CF the last bit shifted out; 0, or the sign for SAR, once the count is past the
width (42_logic_shift.md R254, R255, R256). -/
def Obligations.ShiftClosedForm : Prop :=
  ∀ (n : Nat) (c : Nat) (cf : Bool) (a : BitVec n), 0 < n →
    ((ShiftOp.shl.steps c (cf, a)).2 = a <<< c ∧ (ShiftOp.shr.steps c (cf, a)).2 = a >>> c ∧
      (ShiftOp.sar.steps c (cf, a)).2 = a.sshiftRight c) ∧
    (1 ≤ c →
      (ShiftOp.shl.steps c (cf, a)).1 = (decide (c ≤ n) && a.getLsbD (n - c)) ∧
      (ShiftOp.shr.steps c (cf, a)).1 = (decide (c ≤ n) && a.getLsbD (c - 1)) ∧
      (ShiftOp.sar.steps c (cf, a)).1 = if c ≤ n then a.getLsbD (c - 1) else a.msb)

/-- The shifts and rotates in all their forms: one read and one write whatever the count, the whole of CL as the count, no
flag changed by a count of 0 (42_logic_shift.md R248; the results are those of the closed forms).
The order in which free values are drawn is the model's own (log entry 1). -/
def Obligations.ShiftForms : Prop :=
  ∀ (op : ShiftOp) (s : State),
    let to8 := fun (rm : RM8) (count : Nat) =>
      let a := s.operand8 rm
      let x := op.steps count (s.cpu.flags.cf, a)
      let f := { s.cpu.flags with
        cf := x.1, ovf := if count = 1 then op.overflow a x.2 x.1 else Config.freeBit s.cpu.draws }
      let g := if op.isShift then { f.withSzp x.2 with af := Config.freeBit (s.cpu.draws + 1) } else f
      s.ends (s.cpu.reads8 rm ++ s.cpu.writes8 x.2 rm)
        ((if count = 0 then s.cpu else { s.cpu with flags := g, draws := s.cpu.draws + 8 }).into8 x.2 rm)
    let to16 := fun (rm : RM16) (count : Nat) =>
      let a := s.operand16 rm
      let x := op.steps count (s.cpu.flags.cf, a)
      let f := { s.cpu.flags with
        cf := x.1, ovf := if count = 1 then op.overflow a x.2 x.1 else Config.freeBit s.cpu.draws }
      let g := if op.isShift then { f.withSzp x.2 with af := Config.freeBit (s.cpu.draws + 1) } else f
      s.ends (s.cpu.reads16 rm ++ s.cpu.writes16 x.2 rm)
        ((if count = 0 then s.cpu else { s.cpu with flags := g, draws := s.cpu.draws + 8 }).into16 x.2 rm)
    (∀ rm, exec (shiftEb1 op rm) s = .next (to8 rm 1)) ∧
    (∀ rm, exec (shiftEbCL op rm) s = .next (to8 rm (s.cpu.r8 .cl).toNat)) ∧
    (∀ rm, exec (shiftEv1 op rm) s = .next (to16 rm 1)) ∧
    (∀ rm, exec (shiftEvCL op rm) s = .next (to16 rm (s.cpu.r8 .cl).toNat))

/-- OF after a count of 1 (42_logic_shift.md R250 to R256): what the rules give, from the operand before and after, at every
width. -/
def Obligations.ShiftOverflow : Prop :=
  ∀ (n : Nat) (cf : Bool) (a : BitVec n), 2 ≤ n →
    let after := fun (op : ShiftOp) => op.step (cf, a)
    let ovf := fun (op : ShiftOp) => op.overflow a (after op).2 (after op).1
    ovf .rol = ((after .rol).2.getLsbD (n - 1) ^^ (after .rol).1) ∧
    ovf .ror = ((after .ror).2.getLsbD (n - 1) ^^ (after .ror).2.getLsbD (n - 2)) ∧
    ovf .rcl = ((after .rcl).2.getLsbD (n - 1) ^^ (after .rcl).1) ∧
    ovf .rcr = ((after .rcr).2.getLsbD (n - 1) ^^ (after .rcr).2.getLsbD (n - 2)) ∧
    ovf .shl = ((after .shl).2.getLsbD (n - 1) ^^ (after .shl).1) ∧
    ovf .shr = a.getLsbD (n - 1) ∧
    ovf .sar = false

/-- MUL and IMUL: the whole product, unsigned or signed; CF and OF say that it does not fit the lower half; SF, ZF, AF and PF
are free (41_arithmetic.md R220, R221).
The order in which free values are drawn is the model's own (log entry 1). -/
def Obligations.Multiply : Prop :=
  ∀ s : State,
    let free := fun (carry : Bool) => { s.cpu.flags with
      cf := carry, ovf := carry, sf := Config.freeBit s.cpu.draws, zf := Config.freeBit (s.cpu.draws + 1)
      af := Config.freeBit (s.cpu.draws + 2), pf := Config.freeBit (s.cpu.draws + 3) }
    (∀ rm, let p := (s.cpu.r8 .al).toNat * (s.operand8 rm).toNat
      exec (.mulEb rm) s = .next (s.ends (s.cpu.reads8 rm)
        { s.cpu with ax := BitVec.ofNat 16 p, flags := free (decide (256 ≤ p)), draws := s.cpu.draws + 8 })) ∧
    (∀ rm, let p := s.cpu.ax.toNat * (s.operand16 rm).toNat
      exec (.mulEv rm) s = .next (s.ends (s.cpu.reads16 rm)
        { s.cpu with
          dx := BitVec.ofNat 16 (p / 65536), ax := BitVec.ofNat 16 p, flags := free (decide (65536 ≤ p))
          draws := s.cpu.draws + 8 })) ∧
    (∀ rm, let p := (s.cpu.r8 .al).toInt * (s.operand8 rm).toInt
      exec (.imulEb rm) s = .next (s.ends (s.cpu.reads8 rm)
        { s.cpu with
          ax := BitVec.ofInt 16 p, flags := free (decide (¬(-128 ≤ p ∧ p ≤ 127))), draws := s.cpu.draws + 8 })) ∧
    (∀ rm, let p := s.cpu.ax.toInt * (s.operand16 rm).toInt
      exec (.imulEv rm) s = .next (s.ends (s.cpu.reads16 rm)
        { s.cpu with
          dx := BitVec.ofInt 16 (p / 65536), ax := BitVec.ofInt 16 p, flags := free (decide (¬(-32768 ≤ p ∧ p ≤ 32767)))
          draws := s.cpu.draws + 8 }))

/-- DIV and IDIV when the quotient fits: quotient and remainder, all six flags free (41_arithmetic.md R222, R223).
The order in which free values are drawn is the model's own (log entry 1). -/
def Obligations.Divide : Prop :=
  ∀ s : State,
    let free := { s.cpu.flags with
      cf := Config.freeBit s.cpu.draws, pf := Config.freeBit (s.cpu.draws + 1), af := Config.freeBit (s.cpu.draws + 2)
      zf := Config.freeBit (s.cpu.draws + 3), sf := Config.freeBit (s.cpu.draws + 4)
      ovf := Config.freeBit (s.cpu.draws + 5) }
    let n32 := s.cpu.dx ++ s.cpu.ax
    (∀ rm, let d := (s.operand8 rm).toNat
      let n := s.cpu.ax.toNat
      d ≠ 0 → n / d ≤ 255 →
        exec (.divEb rm) s = .next (s.ends (s.cpu.reads8 rm) { s.cpu with
          ax := BitVec.ofNat 8 (n % d) ++ BitVec.ofNat 8 (n / d), flags := free, draws := s.cpu.draws + 8 })) ∧
    (∀ rm, let d := (s.operand16 rm).toNat
      let n := n32.toNat
      d ≠ 0 → n / d ≤ 65535 →
        exec (.divEv rm) s = .next (s.ends (s.cpu.reads16 rm) { s.cpu with
          ax := BitVec.ofNat 16 (n / d), dx := BitVec.ofNat 16 (n % d), flags := free, draws := s.cpu.draws + 8 })) ∧
    (∀ rm, let d := (s.operand8 rm).toInt
      let n := s.cpu.ax.toInt
      d ≠ 0 → -127 ≤ n.tdiv d → n.tdiv d ≤ 127 →
        exec (.idivEb rm) s = .next (s.ends (s.cpu.reads8 rm) { s.cpu with
          ax := BitVec.ofInt 8 (n.tmod d) ++ BitVec.ofInt 8 (n.tdiv d), flags := free, draws := s.cpu.draws + 8 })) ∧
    (∀ rm, let d := (s.operand16 rm).toInt
      let n := n32.toInt
      d ≠ 0 → -32767 ≤ n.tdiv d → n.tdiv d ≤ 32767 →
        exec (.idivEv rm) s = .next (s.ends (s.cpu.reads16 rm) { s.cpu with
          ax := BitVec.ofInt 16 (n.tdiv d), dx := BitVec.ofInt 16 (n.tmod d), flags := free, draws := s.cpu.draws + 8 }))

/-- DIV and IDIV whose divisor is 0 or whose quotient does not fit, and AAM by 0: entry 0 with the offset of the next
instruction, no register but the flags changed before it; all six flags they push are free (41_arithmetic.md R212, R222,
R223; 60_exceptions.md R437, R438).
The order in which free values are drawn is the model's own (log entry 1).
That all six are free for AAM by 0, of which R212 names three, is the model's reading of R437 (log entry 25). -/
def Obligations.DivideError : Prop :=
  ∀ s : State,
    let c := { s.cpu with
      flags := { s.cpu.flags with
        cf := Config.freeBit s.cpu.draws, pf := Config.freeBit (s.cpu.draws + 1), af := Config.freeBit (s.cpu.draws + 2)
        zf := Config.freeBit (s.cpu.draws + 3), sf := Config.freeBit (s.cpu.draws + 4)
        ovf := Config.freeBit (s.cpu.draws + 5) }
      draws := s.cpu.draws + 8 }
    let n32 := s.cpu.dx ++ s.cpu.ax
    let errs := fun (i : Instr) (rs : List BusReq) => exec i s = .next ((s.performs rs).entered 0 s.cpu.ip c)
    (∀ rm, (s.operand8 rm = 0 ∨ 255 < s.cpu.ax.toNat / (s.operand8 rm).toNat) → errs (.divEb rm) (s.cpu.reads8 rm)) ∧
    (∀ rm, (s.operand16 rm = 0 ∨ 65535 < n32.toNat / (s.operand16 rm).toNat) → errs (.divEv rm) (s.cpu.reads16 rm)) ∧
    (∀ rm, (s.operand8 rm = 0 ∨ ¬(-127 ≤ s.cpu.ax.toInt.tdiv (s.operand8 rm).toInt ∧
      s.cpu.ax.toInt.tdiv (s.operand8 rm).toInt ≤ 127)) → errs (.idivEb rm) (s.cpu.reads8 rm)) ∧
    (∀ rm, (s.operand16 rm = 0 ∨ ¬(-32767 ≤ n32.toInt.tdiv (s.operand16 rm).toInt ∧
      n32.toInt.tdiv (s.operand16 rm).toInt ≤ 32767)) → errs (.idivEv rm) (s.cpu.reads16 rm)) ∧
    errs (.aam 0) []

/-- AAA and AAS with their encodings (41_arithmetic.md R210, R211).
The order in which free values are drawn is the model's own (log entry 1). -/
def Obligations.AsciiAdjust : Prop :=
  (∀ rest, decode (0x37 :: rest) = .ok .aaa rest ∧ decode (0x3F :: rest) = .ok .aas rest) ∧
  ∀ s : State,
    let al := s.cpu.r8 .al
    let ah := s.cpu.r8 .ah
    let adjust := decide (9 < al.toNat % 16) || s.cpu.flags.af
    let free := { s.cpu.flags with
      af := adjust, cf := adjust, ovf := Config.freeBit s.cpu.draws, sf := Config.freeBit (s.cpu.draws + 1)
      zf := Config.freeBit (s.cpu.draws + 2), pf := Config.freeBit (s.cpu.draws + 3) }
    exec .aaa s = .next (s.ends [] { s.cpu with
      ax := (if adjust then ah + 1 else ah) ++ BitVec.ofNat 8 ((if adjust then al.toNat + 6 else al.toNat) % 16)
      flags := free, draws := s.cpu.draws + 8 }) ∧
    exec .aas s = .next (s.ends [] { s.cpu with
      ax := (if adjust then ah - 1 else ah) ++ BitVec.ofNat 8 ((if adjust then al.toNat + 10 else al.toNat) % 16)
      flags := free, draws := s.cpu.draws + 8 })

/-- AAM with a divisor that is not 0, and AAD (41_arithmetic.md R212, R213).
The order in which free values are drawn is the model's own (log entry 1). -/
def Obligations.AamAad : Prop :=
  ∀ (s : State) (imm : Byte),
    let al := (s.cpu.r8 .al).toNat
    let ah := (s.cpu.r8 .ah).toNat
    let after := fun (hi lo : Byte) => s.ends [] { s.cpu with
      ax := hi ++ lo
      flags := { s.cpu.flags.withSzp lo with
        cf := Config.freeBit s.cpu.draws, ovf := Config.freeBit (s.cpu.draws + 1)
        af := Config.freeBit (s.cpu.draws + 2) }
      draws := s.cpu.draws + 8 }
    (imm ≠ 0 → exec (.aam imm) s = .next (after (BitVec.ofNat 8 (al / imm.toNat)) (BitVec.ofNat 8 (al % imm.toNat)))) ∧
    exec (.aad imm) s = .next (after 0 (BitVec.ofNat 8 (ah * imm.toNat + al)))

/-- DAA and DAS: the adjusted AL and its flags, AL and CF free on the one disputed input class, OF free
(41_arithmetic.md R214, R215).
The order in which free values are drawn is the model's own (log entry 1). -/
def Obligations.DecimalAdjust : Prop :=
  ∀ s : State,
    let a := (s.cpu.r8 .al).toNat
    let c := s.cpu.flags.cf
    let h := s.cpu.flags.af
    let low := decide (9 < a % 16) || h
    let high := decide (0x99 < a) || c
    let disputed := h && !c && decide (0x9A ≤ a ∧ a ≤ 0x9F)
    let add := fun (x y : Nat) => BitVec.ofNat 8 (a + (if low then x else 0) + (if high then y else 0))
    let after := fun (adjusted : Byte) =>
      let al := if disputed then Config.freeByte s.cpu.draws else adjusted
      s.ends [] { s.cpu.set8 .al al with
        flags := { s.cpu.flags.withSzp al with
          af := low, cf := if disputed then Config.freeBit s.cpu.draws else high
          ovf := Config.freeBit (s.cpu.draws + 1) }
        draws := s.cpu.draws + 8 }
    exec .daa s = .next (after (add 6 0x60)) ∧ exec .das s = .next (after (add 0xFA 0xA0))

/-- CBW and CWD with their encodings: they extend the sign, and set no flag (41_arithmetic.md R218, R219). -/
def Obligations.SignExtension : Prop :=
  (∀ rest, decode (0x98 :: rest) = .ok .cbw rest ∧ decode (0x99 :: rest) = .ok .cwd rest) ∧
  ∀ s : State,
    exec .cbw s = .next (s.ends [] (s.cpu.set8 .ah (if (s.cpu.r8 .al).getLsbD 7 then 0xFF else 0x00))) ∧
    exec .cwd s = .next (s.ends [] { s.cpu with dx := if s.cpu.ax.getLsbD 15 then 0xFFFF else 0x0000 })

/-! ## Data transfer -/

/-- MOV in its general forms: the source goes to the destination, no flag changes, and a memory destination is not read
(40_data_transfer.md R170). -/
def Obligations.MovForms : Prop :=
  ∀ s : State,
    (∀ rm reg, exec (.movEbGb rm reg) s =
      .next (s.ends (s.cpu.writes8 (s.cpu.r8 reg) rm) (s.cpu.into8 (s.cpu.r8 reg) rm))) ∧
    (∀ rm reg, exec (.movEvGv rm reg) s =
      .next (s.ends (s.cpu.writes16 (s.cpu.r16 reg) rm) (s.cpu.into16 (s.cpu.r16 reg) rm))) ∧
    (∀ reg rm, exec (.movGbEb reg rm) s = .next (s.ends (s.cpu.reads8 rm) (s.cpu.set8 reg (s.operand8 rm)))) ∧
    (∀ reg rm, exec (.movGvEv reg rm) s = .next (s.ends (s.cpu.reads16 rm) (s.cpu.set16 reg (s.operand16 rm)))) ∧
    (∀ rm imm, exec (.movEbIb rm imm) s = .next (s.ends (s.cpu.writes8 imm rm) (s.cpu.into8 imm rm))) ∧
    (∀ rm imm, exec (.movEvIv rm imm) s = .next (s.ends (s.cpu.writes16 imm rm) (s.cpu.into16 imm rm))) ∧
    (∀ r imm, exec (.movReg8Ib r imm) s = .next (s.ends [] (s.cpu.set8 r imm))) ∧
    (∀ r imm, exec (.movReg16Iv r imm) s = .next (s.ends [] (s.cpu.set16 r imm))) ∧
    (∀ off, let seg := s.cpu.seg (s.cpu.segOverride.getD .ds)
      exec (.movALOb off) s = .next (s.ends [.memR (phys seg off)] (s.cpu.set8 .al (s.byte seg off))) ∧
      exec (.movAXOv off) s = .next (s.ends (wordReads seg off) { s.cpu with ax := s.word seg off }) ∧
      exec (.movObAL off) s = .next (s.ends [.memW (phys seg off) (s.cpu.r8 .al)] s.cpu) ∧
      exec (.movOvAX off) s = .next (s.ends (wordWrites seg off s.cpu.ax) s.cpu))

/-- MOV with a segment register: a load inhibits every interrupt at the next boundary, CS is loaded without a flush, and the
forms with bit 2 of the register field set act as those without it (40_data_transfer.md R171; 30_encoding.md R150).
That MOV CS completes at Level A, where R171 and 93_implementation_defined.md I8 would have such a model refuse it, is the
model's choice (log entry 20). -/
def Obligations.MovSegment : Prop :=
  ∀ (s : State) (rm : RM16) (sr : SReg),
    let stored := s.ends (s.cpu.writes16 (s.cpu.seg sr) rm) (s.cpu.into16 (s.cpu.seg sr) rm)
    let loaded := s.ends (s.cpu.reads16 rm) { s.cpu.setSeg sr (s.operand16 rm) with inhibit := .all }
    exec (.movEwSw rm sr) s = .next stored ∧ exec (.movEwSwHi rm sr) s = .next stored ∧
      exec (.movSwEw sr rm) s = .next loaded ∧ exec (.movSwEwHi sr rm) s = .next loaded

/-- PUSH and POP in all their forms: PUSH SP by opcode 54 pushes the new SP, by FF/6 a free word; a POP to memory computes its
address before SP moves; a POP of a segment register inhibits every interrupt at the next boundary
(40_data_transfer.md R172 to R177; 20_memory.md R90).
The order in which free values are drawn is the model's own (log entry 1).
That POP CS completes at Level A, where R176 and 93_implementation_defined.md I8 would have such a model refuse it, is the
model's choice (log entry 20). -/
def Obligations.PushPop : Prop :=
  ∀ s : State,
    let c := s.cpu
    let pushed := { c with sp := c.sp - 2 }
    let push := fun v : Word => s.ends (wordWrites c.ss (c.sp - 2) v) pushed
    let top := s.word c.ss c.sp
    let popped := { c with sp := c.sp + 2 }
    let popSeg := fun sr : SReg => s.ends (wordReads c.ss c.sp) { popped.setSeg sr top with inhibit := .all }
    (∀ r, exec (.pushReg16 r) s = .next (push (if r = .sp then c.sp - 2 else c.r16 r))) ∧
    (∀ r, exec (.popReg16 r) s = .next (s.ends (wordReads c.ss c.sp) (popped.set16 r top))) ∧
    (∀ rm, rm ≠ .reg .sp → exec (.pushEv rm) s =
      .next (s.ends (c.reads16 rm ++ wordWrites c.ss (c.sp - 2) (s.operand16 rm)) pushed)) ∧
    exec (.pushEv (.reg .sp)) s =
      .next (s.ends (wordWrites c.ss (c.sp - 2) (Config.freeWord c.draws)) { pushed with draws := c.draws + 8 }) ∧
    (∀ rm, exec (.popEv rm) s = .next (s.ends (wordReads c.ss c.sp ++ c.writes16 top rm) (popped.into16 top rm))) ∧
    exec .pushES s = .next (push c.es) ∧ exec .pushCS s = .next (push c.cs) ∧
    exec .pushSS s = .next (push c.ss) ∧ exec .pushDS s = .next (push c.ds) ∧
    exec .popES s = .next (popSeg .es) ∧ exec .popCS s = .next (popSeg .cs) ∧
    exec .popSS s = .next (popSeg .ss) ∧ exec .popDS s = .next (popSeg .ds)

/-- XCHG, the forms with AX with their encodings: both values are read before either is written (40_data_transfer.md R178, R179). -/
def Obligations.Exchange : Prop :=
  (∀ rest, decode (0x90 :: rest) = .ok .nop rest ∧ decode (0x91 :: rest) = .ok .xchgAXCX rest ∧
    decode (0x92 :: rest) = .ok .xchgAXDX rest ∧ decode (0x93 :: rest) = .ok .xchgAXBX rest ∧
    decode (0x94 :: rest) = .ok .xchgAXSP rest ∧ decode (0x95 :: rest) = .ok .xchgAXBP rest ∧
    decode (0x96 :: rest) = .ok .xchgAXSI rest ∧ decode (0x97 :: rest) = .ok .xchgAXDI rest) ∧
  ∀ s : State,
    let c := s.cpu
    (∀ rm reg, exec (.xchgEbGb rm reg) s = .next (s.ends (c.reads8 rm ++ c.writes8 (c.r8 reg) rm)
      ((c.into8 (c.r8 reg) rm).set8 reg (s.operand8 rm)))) ∧
    (∀ rm reg, exec (.xchgEvGv rm reg) s = .next (s.ends (c.reads16 rm ++ c.writes16 (c.r16 reg) rm)
      ((c.into16 (c.r16 reg) rm).set16 reg (s.operand16 rm)))) ∧
    exec .xchgAXCX s = .next (s.ends [] { c with ax := c.cx, cx := c.ax }) ∧
    exec .xchgAXDX s = .next (s.ends [] { c with ax := c.dx, dx := c.ax }) ∧
    exec .xchgAXBX s = .next (s.ends [] { c with ax := c.bx, bx := c.ax }) ∧
    exec .xchgAXSP s = .next (s.ends [] { c with ax := c.sp, sp := c.ax }) ∧
    exec .xchgAXBP s = .next (s.ends [] { c with ax := c.bp, bp := c.ax }) ∧
    exec .xchgAXSI s = .next (s.ends [] { c with ax := c.si, si := c.ax }) ∧
    exec .xchgAXDI s = .next (s.ends [] { c with ax := c.di, di := c.ax })

/-- IN and OUT: a word is two byte accesses, at the port and at the next one; the immediate port is zero-extended
(40_data_transfer.md R180, R181; 20_memory.md R92). -/
def Obligations.PortInstructions : Prop :=
  ∀ s : State,
    let c := s.cpu
    let in8 := fun p : Word => s.ends [.ioR p] (c.set8 .al (s.portRead p).1)
    let in16 := fun p : Word => s.ends [.ioR p, .ioR (p + 1)]
      { c with ax := ((s.performs [.ioR p]).portRead (p + 1)).1 ++ (s.portRead p).1 }
    let out8 := fun p : Word => s.ends [.ioW p (c.ax.setWidth 8)] c
    let out16 := fun p : Word => s.ends [.ioW p (c.ax.setWidth 8), .ioW (p + 1) (c.ax.extractLsb' 8 8)] c
    (∀ imm : Byte, exec (.inALIb imm) s = .next (in8 (imm.setWidth 16)) ∧
      exec (.inAXIb imm) s = .next (in16 (imm.setWidth 16)) ∧
      exec (.outIbAL imm) s = .next (out8 (imm.setWidth 16)) ∧
      exec (.outIbAX imm) s = .next (out16 (imm.setWidth 16))) ∧
    exec .inALDX s = .next (in8 c.dx) ∧ exec .inAXDX s = .next (in16 c.dx) ∧
    exec .outDXAL s = .next (out8 c.dx) ∧ exec .outDXAX s = .next (out16 c.dx)

/-- A port no device of the block answers reads as 0xFF and drops what is written, unless it lies in a range whose ports the
host answers itself: then the host is told of each access and a read gives what the host says (20_memory.md R92, R93;
70_reset_and_hazards.md R712).
That the host's answers are a list in State is the model's form of the handlers (log entry 23). -/
def Obligations.UnclaimedPorts : Prop :=
  ∀ (s : State) (p : Word) (v : Byte),
    ¬(p.toNat ≤ 0x0F ∨ (0x20 ≤ p.toNat ∧ p.toNat ≤ 0x21) ∨ (0x40 ≤ p.toNat ∧ p.toNat ≤ 0x43) ∨
      (0x60 ≤ p.toNat ∧ p.toNat ≤ 0x63) ∨ (0x80 ≤ p.toNat ∧ p.toNat ≤ 0x83) ∨ (0x3D0 ≤ p.toNat ∧ p.toNat ≤ 0x3DF)) →
    let external := ∃ r ∈ s.params.extPorts, r.base ≤ p.toNat ∧ p.toNat < r.base + r.size
    (¬external → s.portRead p = (0xFF, s) ∧ s.portWrite p v = s) ∧
    (external →
      (s.portRead p).2.host.out = s.host.out ++ [.extPortRead p] ∧
      (∀ b bs, s.host.extIn = b :: bs → (s.portRead p).1 = b ∧ (s.portRead p).2.host.extIn = bs) ∧
      s.portWrite p v = { s with host := { s.host with out := s.host.out ++ [.extPortWrite p v] } })

/-- XLAT, LEA, LDS and LES: LEA gives the sum of its parts and reads nothing; LDS and LES load the pointer's offset and
segment; and the segment of a memory operand: the override's if there is one, else SS for the bases with BP and DS for the
others (40_data_transfer.md R182 to R185; 30_encoding.md R125, R131; 20_memory.md R89). -/
def Obligations.AddressLoads : Prop :=
  ∀ s : State,
    let c := s.cpu
    let hasBp := fun b : Base => b = .bpsi ∨ b = .bpdi ∨ b = .bp
    let table := c.bx + (c.r8 .al).setWidth 16
    let tableSeg := c.seg (c.segOverride.getD .ds)
    (∀ m, c.memSeg m =
      match c.segOverride, m with
      | some r, _ => c.seg r
      | none, .direct _ => c.ds
      | none, .noDisp b | none, .disp8 b _ | none, .disp16 b _ => if hasBp b then c.ss else c.ds) ∧
    exec .xlat s = .next (s.ends [.memR (phys tableSeg table)] (c.set8 .al (s.byte tableSeg table))) ∧
    (∀ reg m, exec (.lea reg m) s = .next (s.ends [] (c.set16 reg (BitVec.ofInt 16 (c.offsetSum m))))) ∧
    (∀ reg m, let seg := c.memSeg m
      let off := BitVec.ofInt 16 (c.offsetSum m)
      let reads := wordReads seg off ++ wordReads seg (off + 2)
      let loaded := c.set16 reg (s.word seg off)
      exec (.lds reg m) s = .next (s.ends reads { loaded with ds := s.word2 seg off }) ∧
      exec (.les reg m) s = .next (s.ends reads { loaded with es := s.word2 seg off }))

/-- LAHF, SAHF, PUSHF and POPF with their encodings (40_data_transfer.md R186 to R188, and R189 but for when the loaded IF and
TF take effect). -/
def Obligations.FlagTransfers : Prop :=
  (∀ rest, decode (0x9F :: rest) = .ok .lahf rest ∧ decode (0x9E :: rest) = .ok .sahf rest ∧
    decode (0x9C :: rest) = .ok .pushf rest ∧ decode (0x9D :: rest) = .ok .popf rest) ∧
  ∀ s : State,
    let c := s.cpu
    let ah := c.r8 .ah
    let top := s.word c.ss c.sp
    exec .lahf s = .next (s.ends [] (c.set8 .ah (c.flags.image.setWidth 8))) ∧
    exec .sahf s = .next (s.ends [] { c with flags := { c.flags with
      sf := ah.getLsbD 7, zf := ah.getLsbD 6, af := ah.getLsbD 4, pf := ah.getLsbD 2, cf := ah.getLsbD 0 } }) ∧
    exec .pushf s = .next (s.ends (wordWrites c.ss (c.sp - 2) c.flags.image) { c with sp := c.sp - 2 }) ∧
    exec .popf s = .next (s.ends (wordReads c.ss c.sp) { c with
      sp := c.sp + 2
      flags := { cf := top.getLsbD 0, pf := top.getLsbD 2, af := top.getLsbD 4, zf := top.getLsbD 6, sf := top.getLsbD 7
                 tf := top.getLsbD 8, ifl := top.getLsbD 9, df := top.getLsbD 10, ovf := top.getLsbD 11 } })

/-! ## Strings -/

/-- A string instruction, by its opcode, without a repeat mark does one element (43_string.md R270 to R275). -/
def Obligations.StringOnce : Prop :=
  (∀ (op : StringOp) (wide : Bool) rest, decode (stringCode op wide :: rest) = .ok (stringOf op wide) rest) ∧
  ∀ (op : StringOp) (wide : Bool) (s : State), s.cpu.repMark = none →
    exec (stringOf op wide) s = .next (s.ends (s.element op wide).1 (s.element op wide).2)

/-- A string instruction with a repeat mark: nothing when CX is 0; else one element and CX one less, after which it completes
if CX is 0 or a comparison left the ZF that the mark does not repeat on, and stays active otherwise
(43_string.md R276, R277). -/
def Obligations.StringRepeated : Prop :=
  ∀ (op : StringOp) (wide : Bool) (s : State) (kind : RepKind), s.cpu.repMark = some kind →
    (s.cpu.cx = 0 → exec (stringOf op wide) s = .next (s.ends [] s.cpu)) ∧
    (s.cpu.cx ≠ 0 →
      let rs := (s.element op wide).1
      let c := { (s.element op wide).2 with cx := s.cpu.cx - 1 }
      let ends := c.cx = 0 ∨ ((op = .cmps ∨ op = .scas) ∧ c.flags.zf ≠ decide (kind = .rep))
      (ends → exec (stringOf op wide) s = .next (s.ends rs c)) ∧
      (¬ends → exec (stringOf op wide) s = .next { s.performs rs with
        cpu := { c with
          repActive := some { kind := kind, opcode := stringCode op wide, resume := s.cpu.ip - 2 } } }))

/-- A repeated MOVS, LODS or STOS with CX not 0 runs exactly CX times: after fewer runs it is still active with the rest of
the count, after the last it has ended with CX 0 and every index moved that often; the offset of the next instruction stays
(43_string.md R276, R277). -/
def Obligations.RepeatRuns : Prop :=
  ∀ (op : StringOp) (wide : Bool) (s : State), op = .movs ∨ op = .lods ∨ op = .stos →
    s.cpu.repMark.isSome = true → s.cpu.cx ≠ 0 →
    (∀ k, 0 < k → k < s.cpu.cx.toNat →
      let t := s.again (stringOf op wide) k
      t.cpu.repActive.isSome = true ∧ t.cpu.cx.toNat = s.cpu.cx.toNat - k ∧ t.cpu.ip = s.cpu.ip) ∧
    (let t := s.again (stringOf op wide) s.cpu.cx.toNat
     let span := s.cpu.cx * s.cpu.stride wide
     t.cpu.repActive = none ∧ t.cpu.repMark = none ∧ t.cpu.cx = 0 ∧ t.cpu.ip = s.cpu.ip ∧
       t.cpu.si = (if op = .stos then s.cpu.si else s.cpu.si + span) ∧
       t.cpu.di = (if op = .lods then s.cpu.di else s.cpu.di + span) ∧ t.cpu.flags = s.cpu.flags)

/-- REP STOSB leaves AL in every byte it stores to that is RAM or video memory, and no other byte of memory changes
(43_string.md R274, R276; 20_memory.md R96). -/
def Obligations.RepeatFills : Prop :=
  ∀ (s : State) (kind : RepKind), s.cpu.repMark = some kind → s.cpu.cx ≠ 0 →
    let t := s.again .stosb s.cpu.cx.toNat
    let place := fun j : Nat => phys s.cpu.es (s.cpu.di + BitVec.ofNat 16 j * s.cpu.stride false)
    (∀ j, j < s.cpu.cx.toNat → backing s.params.ramSize (place j) ≠ .rom → t.peek (place j) = s.cpu.r8 .al) ∧
    (∀ a, (∀ j, j < s.cpu.cx.toNat → ¬sameByte a (place j)) → t.peek a = s.peek a)

/-! ## Control transfer -/

/-- JMP in its five forms, the three direct ones with their encodings: the target goes to IP, and to CS for the far ones, and the queue is flushed
(44_control_transfer.md R289 to R294). -/
def Obligations.Jumps : Prop :=
  (∀ (x y z w : Byte) (rest), decode (0xEB :: x :: rest) = .ok (.jmpJb x) rest ∧
    decode (0xE9 :: x :: y :: rest) = .ok (.jmpJv (y ++ x)) rest ∧
    decode (0xEA :: x :: y :: z :: w :: rest) = .ok (.jmpAp (y ++ x) (w ++ z)) rest) ∧
  ∀ s : State,
    let c := s.cpu
    (∀ disp, exec (.jmpJb disp) s = .next (s.jumps [] { c with ip := BitVec.ofInt 16 (c.ip.toNat + disp.toInt) })) ∧
    (∀ disp, exec (.jmpJv disp) s = .next (s.jumps [] { c with ip := c.ip + disp })) ∧
    (∀ rm, exec (.jmpEv rm) s = .next (s.jumps (c.reads16 rm) { c with ip := s.operand16 rm })) ∧
    (∀ off seg, exec (.jmpAp off seg) s = .next (s.jumps [] { c with ip := off, cs := seg })) ∧
    (∀ m, let seg := c.memSeg m
      let off := c.offset m
      exec (.jmpMp m) s = .next (s.jumps (wordReads seg off ++ wordReads seg (off + 2))
        { c with ip := s.word seg off, cs := s.word2 seg off }))

/-- The conditional jumps, the LOOP family and JCXZ, with their encodings: taken, IP moves and the queue is flushed; not taken, neither happens; no
flag changes (44_control_transfer.md R300, R315 to R318). -/
def Obligations.ConditionalJumps : Prop :=
  let number := fun cc : Cond =>
    match cc with
    | .o => 0 | .no => 1 | .b => 2 | .nb => 3 | .z => 4 | .nz => 5 | .be => 6 | .a => 7
    | .s => 8 | .ns => 9 | .p => 10 | .np => 11 | .l => 12 | .ge => 13 | .le => 14 | .g => 15
  (∀ (cc : Cond) (disp : Byte) (rest), decode ((0x70 + number cc) :: disp :: rest) = .ok (.jcc cc disp) rest ∧
    decode ((0x60 + number cc) :: disp :: rest) = .ok (.jcc60 cc disp) rest ∧
    decode (0xE2 :: disp :: rest) = .ok (.loop disp) rest ∧ decode (0xE1 :: disp :: rest) = .ok (.loope disp) rest ∧
    decode (0xE0 :: disp :: rest) = .ok (.loopne disp) rest ∧ decode (0xE3 :: disp :: rest) = .ok (.jcxz disp) rest) ∧
  ∀ (s : State) (disp : Byte),
    let c := s.cpu
    let f := c.flags
    let cond := fun cc : Cond =>
      match cc with
      | .o => f.ovf = true | .no => f.ovf = false | .b => f.cf = true | .nb => f.cf = false
      | .z => f.zf = true | .nz => f.zf = false | .be => f.cf = true ∨ f.zf = true | .a => f.cf = false ∧ f.zf = false
      | .s => f.sf = true | .ns => f.sf = false | .p => f.pf = true | .np => f.pf = false
      | .l => f.sf ≠ f.ovf | .ge => f.sf = f.ovf | .le => f.zf = true ∨ f.sf ≠ f.ovf | .g => f.zf = false ∧ f.sf = f.ovf
    let target := BitVec.ofInt 16 (c.ip.toNat + disp.toInt)
    let counted := { c with cx := c.cx - 1 }
    let decides := fun (i : Instr) (p : Prop) (d : Cpu) =>
      (p → exec i s = .next (s.jumps [] { d with ip := target })) ∧ (¬p → exec i s = .next (s.ends [] d))
    (∀ cc, decides (.jcc cc disp) (cond cc) c ∧ decides (.jcc60 cc disp) (cond cc) c) ∧
    decides (.loop disp) (c.cx ≠ 1) counted ∧
    decides (.loope disp) (c.cx ≠ 1 ∧ f.zf = true) counted ∧
    decides (.loopne disp) (c.cx ≠ 1 ∧ f.zf = false) counted ∧
    decides (.jcxz disp) (c.cx = 0) c

/-- After CMP the conditions compare: unsigned by B, BE, A, NB, signed by L, LE, G, GE (44_control_transfer.md R300;
41_arithmetic.md R204, R230). -/
def Obligations.ComparedConditions : Prop :=
  ∀ (f : Flags) (a b : Word),
    let holds := fun cc => condHolds (f.sub a b false) cc = true
    (holds .z ↔ a = b) ∧ (holds .nz ↔ a ≠ b) ∧
    (holds .b ↔ a.toNat < b.toNat) ∧ (holds .nb ↔ b.toNat ≤ a.toNat) ∧
    (holds .be ↔ a.toNat ≤ b.toNat) ∧ (holds .a ↔ b.toNat < a.toNat) ∧
    (holds .l ↔ a.toInt < b.toInt) ∧ (holds .ge ↔ b.toInt ≤ a.toInt) ∧
    (holds .le ↔ a.toInt ≤ b.toInt) ∧ (holds .g ↔ b.toInt < a.toInt)

/-- CALL in its four forms, the two direct ones with their encodings: an indirect target is read before the push; a far call pushes CS, then the return offset
(44_control_transfer.md R303 to R306). -/
def Obligations.Calls : Prop :=
  (∀ (x y z w : Byte) (rest), decode (0xE8 :: x :: y :: rest) = .ok (.callJv (y ++ x)) rest ∧
    decode (0x9A :: x :: y :: z :: w :: rest) = .ok (.callAp (y ++ x) (w ++ z)) rest) ∧
  ∀ s : State,
    let c := s.cpu
    let near := wordWrites c.ss (c.sp - 2) c.ip
    let far := wordWrites c.ss (c.sp - 2) c.cs ++ wordWrites c.ss (c.sp - 4) c.ip
    (∀ disp, exec (.callJv disp) s = .next (s.jumps near { c with sp := c.sp - 2, ip := c.ip + disp })) ∧
    (∀ rm, exec (.callEv rm) s =
      .next (s.jumps (c.reads16 rm ++ near) { c with sp := c.sp - 2, ip := s.operand16 rm })) ∧
    (∀ off seg, exec (.callAp off seg) s = .next (s.jumps far { c with sp := c.sp - 4, ip := off, cs := seg })) ∧
    (∀ m, let seg := c.memSeg m
      let off := c.offset m
      exec (.callMp m) s = .next (s.jumps (wordReads seg off ++ wordReads seg (off + 2) ++ far)
        { c with sp := c.sp - 4, ip := s.word seg off, cs := s.word2 seg off }))

/-- RET and RETF with their undocumented aliases and their encodings: IP, and CS for the far ones, are popped, then the bytes are released
(44_control_transfer.md R307 to R310; 30_encoding.md R150). -/
def Obligations.Returns : Prop :=
  (∀ (x y : Byte) (rest), decode (0xC3 :: rest) = .ok .ret rest ∧ decode (0xC1 :: rest) = .ok .retC1 rest ∧
    decode (0xC2 :: x :: y :: rest) = .ok (.retIw (y ++ x)) rest ∧
    decode (0xC0 :: x :: y :: rest) = .ok (.retIwC0 (y ++ x)) rest ∧
    decode (0xCB :: rest) = .ok .retf rest ∧ decode (0xC9 :: rest) = .ok .retfC9 rest ∧
    decode (0xCA :: x :: y :: rest) = .ok (.retfIw (y ++ x)) rest ∧
    decode (0xC8 :: x :: y :: rest) = .ok (.retfIwC8 (y ++ x)) rest) ∧
  ∀ s : State,
    let c := s.cpu
    let near := fun n : Word => s.jumps (wordReads c.ss c.sp) { c with sp := c.sp + 2 + n, ip := s.word c.ss c.sp }
    let far := fun n : Word => s.jumps (wordReads c.ss c.sp ++ wordReads c.ss (c.sp + 2))
      { c with sp := c.sp + 4 + n, ip := s.word c.ss c.sp, cs := s.word2 c.ss c.sp }
    exec .ret s = .next (near 0) ∧ exec .retC1 s = .next (near 0) ∧
    exec .retf s = .next (far 0) ∧ exec .retfC9 s = .next (far 0) ∧
    (∀ imm, exec (.retIw imm) s = .next (near imm) ∧ exec (.retIwC0 imm) s = .next (near imm) ∧
      exec (.retfIw imm) s = .next (far imm) ∧ exec (.retfIwC8 imm) s = .next (far imm))

/-- INT, INT 3, INTO and IRET, with their encodings: the entries save the offset of the next instruction; INTO enters only if OF is set; IRET pops
IP, CS and the flags (44_control_transfer.md R311 to R314; 60_exceptions.md R436). -/
def Obligations.InterruptInstructions : Prop :=
  (∀ (x : Byte) (rest), decode (0xCD :: x :: rest) = .ok (.intIb x) rest ∧ decode (0xCC :: rest) = .ok .int3 rest ∧
    decode (0xCE :: rest) = .ok .into rest ∧ decode (0xCF :: rest) = .ok .iret rest) ∧
  ∀ s : State,
    let c := s.cpu
    (∀ n, exec (.intIb n) s = .next (s.entered n c.ip c)) ∧
    exec .int3 s = .next (s.entered 3 c.ip c) ∧
    (c.flags.ovf = true → exec .into s = .next (s.entered 4 c.ip c)) ∧
    (c.flags.ovf = false → exec .into s = .next (s.ends [] c)) ∧
    exec .iret s = .next (s.jumps (wordReads c.ss c.sp ++ wordReads c.ss (c.sp + 2) ++ wordReads c.ss (c.sp + 4))
      { c with
        sp := c.sp + 6, ip := s.word c.ss c.sp, cs := s.word2 c.ss c.sp
        flags := Flags.ofImage (s.word3 c.ss c.sp) })

/-- An IRET right after an entry gives back the saved offset, CS, all nine flags and SP, whatever the entry's vector, if the six
bytes of the frame lie in RAM (60_exceptions.md R436; 44_control_transfer.md R314).
The entry ends a halt and a WAIT (log entries 18 and 29). -/
def Obligations.EntryThenReturn : Prop :=
  ∀ (s : State) (n : Byte),
    (∀ k, k < 6 → backing s.params.ramSize (phys s.cpu.ss (s.cpu.sp - BitVec.ofNat 16 (k + 1))) ≠ .rom) →
    ∃ t, exec .iret (s.entered n s.cpu.ip s.cpu) = .next t ∧
      t.cpu = { s.cpu.endInstr with halted := false, waiting := false }

/-! ## Processor control -/

/-- The flag control instructions, with their encodings, change the one flag they name; STI that sets IF keeps maskable interrupts out of the next
boundary (45_processor_control.md R330 to R332, R334 to R337). -/
def Obligations.FlagControl : Prop :=
  (∀ rest, decode (0xF8 :: rest) = .ok .clc rest ∧ decode (0xF9 :: rest) = .ok .stc rest ∧
    decode (0xF5 :: rest) = .ok .cmc rest ∧ decode (0xFC :: rest) = .ok .cld rest ∧
    decode (0xFD :: rest) = .ok .std rest ∧ decode (0xFA :: rest) = .ok .cli rest ∧
    decode (0xFB :: rest) = .ok .sti rest) ∧
  ∀ s : State,
    let c := s.cpu
    exec .clc s = .next (s.ends [] { c with flags := { c.flags with cf := false } }) ∧
    exec .stc s = .next (s.ends [] { c with flags := { c.flags with cf := true } }) ∧
    exec .cmc s = .next (s.ends [] { c with flags := { c.flags with cf := !c.flags.cf } }) ∧
    exec .cld s = .next (s.ends [] { c with flags := { c.flags with df := false } }) ∧
    exec .std s = .next (s.ends [] { c with flags := { c.flags with df := true } }) ∧
    exec .cli s = .next (s.ends [] { c with flags := { c.flags with ifl := false } }) ∧
    (c.flags.ifl = true → exec .sti s = .next (s.ends [] c)) ∧
    (c.flags.ifl = false → exec .sti s =
      .next (s.ends [] { c with flags := { c.flags with ifl := true }, inhibit := .maskable }))

/-- NOP, HLT, WAIT, ESC and SALC, all but ESC with their encodings (45_processor_control.md R340 to R343, R346).
The mark that a WAIT is in progress is a field of the model's own (log entry 29), and that each look of a WAIT at TEST is a
step of its own is its choice (log entry 31). -/
def Obligations.ProcessorControl : Prop :=
  (∀ rest, decode (0x90 :: rest) = .ok .nop rest ∧ decode (0xF4 :: rest) = .ok .hlt rest ∧
    decode (0x9B :: rest) = .ok .wait rest ∧ decode (0xD6 :: rest) = .ok .salc rest) ∧
  ∀ s : State,
    let c := s.cpu
    exec .nop s = .next (s.ends [] c) ∧
    exec .hlt s = .next (s.ends [] { c with halted := true }) ∧
    (s.lines.test = true → exec .wait s = .next (s.ends [] { c with waiting := false })) ∧
    (s.lines.test = false → exec .wait s = .next { s with cpu := { c with waiting := true } }) ∧
    (∀ op reg rm, exec (.esc op reg rm) s = .next (s.ends (c.reads16 rm) c)) ∧
    exec .salc s = .next (s.ends [] (c.set8 .al (if c.flags.cf then 0xFF else 0x00)))

/-- The one-byte forms that come before an instruction set their part of the decode state and nothing else
(45_processor_control.md R333, R344; 30_encoding.md R122, R150).
The list of the marks in order is a field of the model's own (log entry 24). -/
def Obligations.Marks : Prop :=
  ∀ s : State,
    let c := s.cpu
    let marked := fun (i : Instr) (d : Cpu) => exec i s = .next { s with cpu := { d with prefixes := c.prefixes ++ [i] } }
    marked .segES { c with segOverride := some .es } ∧ marked .segCS { c with segOverride := some .cs } ∧
    marked .segSS { c with segOverride := some .ss } ∧ marked .segDS { c with segOverride := some .ds } ∧
    marked .lock { c with lockMark := true } ∧ marked .lockF1 { c with lockMark := true } ∧
    marked .repne { c with repMark := some .repne } ∧ marked .rep { c with repMark := some .rep }

/-- The encodings the spec leaves undefined are taken in and do nothing more (30_encoding.md R147, R151;
42_logic_shift.md R257).
The model takes the fall-through of R151 where the spec also lets a model refuse them (log entry 10). -/
def Obligations.UndefinedEncodings : Prop :=
  ∀ (i : Instr) (s : State), isUndefined i = true → exec i s = .next (s.ends [] s.cpu)

/-! ## Memory -/

/-- Accesses of memory change nothing but the bytes they store to and the trace of the bus, and on the host's side what its
handlers are told and answer, if one has an address among them; an instruction's end changes nothing but the CPU, and a
transfer's end the CPU and the queue with its fetch in progress (20_memory.md R86, R87, R94; 44_control_transfer.md R289;
70_reset_and_hazards.md R712).
The form of the host's side is the model's own (log entry 23). -/
def Obligations.AccessFrame : Prop :=
  ∀ (s : State) (rs : List BusReq) (c : Cpu), (∀ r ∈ rs, r.isMemory = true) →
    let t := s.performs rs
    t = { s with
      mem := t.mem, biu := { s.biu with trace := t.biu.trace }
      host := { s.host with extIn := t.host.extIn, draws := t.host.draws, out := t.host.out } } ∧
    ((∀ r ∈ rs, ∀ a, r.addr = some a → s.externalAt a = false) → t.host = s.host) ∧
    t.biu.trace.length = s.biu.trace.length + rs.length ∧
    (∀ a, (∀ r ∈ rs, ∀ b, r.stored = some b → ¬sameByte a b) → t.peek a = s.peek a) ∧
    (∀ a, (s.ends rs c).peek a = t.peek a ∧ (s.jumps rs c).peek a = t.peek a) ∧
    s.ends rs c = { t with cpu := (s.ends rs c).cpu } ∧
    s.jumps rs c = { t with cpu := (s.jumps rs c).cpu, biu := { t.biu with q := [], cur := (s.jumps rs c).biu.cur } }

/-- A byte written to RAM or video memory is read back, at every address that shows it, and every other byte stays; a write
where there is ROM or nothing is dropped; the second half of the video window shows the first; a word is read back at any
offset, the top of the segment included; an address of the host's own handlers is no RAM or video memory, and an access of
it goes to the host (20_memory.md R83 to R88, R96; 70_reset_and_hazards.md R712).
That the host's answers are a list in State is the model's form of the handlers (log entry 23). -/
def Obligations.ReadAfterWrite : Prop :=
  (∀ (s : State) (a b : Addr) (v : Byte),
    (backing s.params.ramSize a ≠ .rom → sameByte b a → (s.poke a v).peek b = v) ∧
    (¬sameByte b a → (s.poke a v).peek b = s.peek b) ∧
    (backing s.params.ramSize a = .rom → s.poke a v = s) ∧
    (0xB8000 ≤ a.toNat → a.toNat < 0xBC000 → s.peek (a + 0x4000) = s.peek a)) ∧
  (∀ (s : State) (a : Addr) (v : Byte),
    let external := backing s.params.ramSize a = .rom ∧ ∃ r ∈ s.params.extMem, r.base ≤ a.toNat ∧ a.toNat < r.base + r.size
    (¬external → s.access (.memR a) = (s.peek a, s) ∧ s.access (.memW a v) = (v, s.poke a v)) ∧
    (external →
      (s.access (.memR a)).2.host.out = s.host.out ++ [.extMemRead a] ∧
      (∀ b bs, s.host.extIn = b :: bs → (s.access (.memR a)).1 = b ∧ (s.access (.memR a)).2.host.extIn = bs) ∧
      s.access (.memW a v) = (v, { s with host := { s.host with out := s.host.out ++ [.extMemWrite a v] } }))) ∧
  (∀ (s : State) (seg off v : Word),
    backing s.params.ramSize (phys seg off) ≠ .rom → backing s.params.ramSize (phys seg (off + 1)) ≠ .rom →
    (s.performs (wordWrites seg off v)).word seg off = v)

/-! ## The machine -/

/-- When nothing is recognised first, a step executes what the bytes at CS:IP decode to, on the state in which those bytes are
taken, then lets time pass; a halted machine lets one tick pass; an unfinished string instruction or WAIT is executed again;
an instruction under LOCK lets a tick pass while the bus is with the DMA controller; a machine stepped by ticks makes a tick;
a store into the `QUEUE_SIZE` bytes that follow leaves the old or the new byte for the stream, and a load of CS makes each of
them a byte of the old or of the new CS, each by a free choice; a look of a WAIT that finds TEST false is followed by sampling
(30_encoding.md R121, R122; 43_string.md R277; 45_processor_control.md R341, R342, R344; 20_memory.md R104, R108;
40_data_transfer.md R171, R176; 60_exceptions.md R446).
How many ticks pass, that without gaps they pass after the instruction, and that a locked instruction waits before it begins
are the model's choice (log entry 5); what it makes of the bytes that follow a store into them or a load of CS is log entry 20,
and that after a store it draws for no byte that a handler of the host answers is log entry 23; the mark that a WAIT is in
progress is a field of the model's own (log entry 29), and that a mark, an iteration, a look of a WAIT and a
halted tick are steps of their own is its choice (log entry 31); that no tick passes after a look of a WAIT whose sampling
recognises something is log entry 5. -/
def Obligations.StepRunsDecoded : Prop :=
  (∀ (before s u : State) (i : Instr) (n : Nat) (flushed : Bool),
    (s.host.gaps = [] → before.execStep i n s = before.afterExec i n s (exec i s)) ∧
    (s.host.gaps ≠ [] → before.execStep i n s =
      (progOf i s.cpu).runGaps (taskLocks s.cpu.lockMark (.instr i)) (s.setLock (s.biu.lockline || s.cpu.lockMark))
        (before.afterEffect i n s)) ∧
    before.afterExec i n s (.next u) = before.afterEffect i n s ((progOf i s.cpu).flushes s) u ∧
    (let v := (s.settleAhead u flushed).segEdge i before.cpu
     let w := v.setLock (u.cpu.repActive.isSome && u.cpu.lockMark)
     before.afterEffect i n s flushed u = if w.cpu.halted then w.pass w.cpu.boundary 1
       else if w.cpu.waiting then if w.choose = none then w.goOn.pass false 1 else .next (w.noteBoundary false)
       else w.finish (stepTicks before w n) w.cpu.boundary)) ∧
  (∀ s u : State,
    let ahead := fun j : Nat => phys s.cpu.cs (s.cpu.ip + BitVec.ofNat 16 j)
    let stored := fun j : Nat => j < Config.queueSize ∧ backing s.params.ramSize (ahead j) ≠ .rom ∧
      ∃ r ∈ u.biu.trace.drop s.biu.trace.length, r.cycle = .memW ∧ ∃ a, r.addr = some a ∧ sameByte a (ahead j)
    let next := fun j : Nat => phys u.cpu.cs (u.cpu.ip + BitVec.ofNat 16 j)
    let loaded := fun j : Nat => j < Config.queueSize ∧ u.cpu.cs ≠ s.cpu.cs
    let old := fun j : Nat => Config.freeBit (u.cpu.draws + j)
    let queue := (s.settleAhead u false).biu.q
    s.settleAhead u true = u ∧
    ((∀ j, ¬stored j ∧ ¬loaded j) → s.settleAhead u false = u) ∧
    (∀ j, stored j → queue[j]? = some (if old j then s.window.getD j 0 else u.peek (ahead j))) ∧
    (∀ j, loaded j → ¬stored j → u.externalAt (ahead j) = false → u.externalAt (next j) = false →
      queue[j]? = some (if old j then if j < s.biu.q.length then s.biu.q.getD j 0 else u.peek (ahead j)
        else u.peek (next j))) ∧
    (∀ j, ¬stored j → ¬loaded j → j < u.biu.q.length → queue[j]? = u.biu.q[j]?)) ∧
  ∀ (s : State) (i : Instr) (rest : List Byte), s.eu.prog = .idle →
    (s.host.byTick = true → step s = s.clearOut.tick) ∧
    (s.host.byTick = false → s.cpu.midUnit = true ∨ s.choose = none →
      let t := if s.cpu.midUnit then s.clearOut else s.clearOut.goOn
      let n := t.window.length - rest.length
      let held := s.cpu.lockMark = true ∧ s.biu.t = .th
      (s.cpu.midUnit = true → held → step s = t.pass false 1) ∧
      (s.cpu.halted = false → s.cpu.waiting = false → s.cpu.repActive = none → ¬held → decode t.window = .ok i rest →
        step s = t.execStep i (min n s.biu.q.length) (t.consume n) ∧
        (t.consume n).cpu = { t.cpu with ip := s.cpu.ip + BitVec.ofNat 16 n }) ∧
      (s.cpu.midUnit = false → s.cpu.halted = true → step s = t.pass false 1) ∧
      (s.cpu.midUnit = false → s.cpu.halted = false → ∀ op wide r, s.cpu.repActive = some r →
        r.opcode = stringCode op wide →
          step s = if held then t.pass false 1 else t.execStep (stringOf op wide) 0 t) ∧
      (s.cpu.midUnit = false → s.cpu.halted = false → s.cpu.repActive = none → s.cpu.waiting = true →
        step s = t.execStep .wait 0 t))

/-- What a sampling point recognises: nothing where a WAIT in progress finds TEST true, which completes instead; nothing after
a segment register load; else NMI, a maskable request that IF and the inhibition let through, a single step, in this order;
what each entry does; the offset it saves: that of the byte before the opcode of an interrupted repeated string instruction,
that of a WAIT in progress, else that of the next instruction; and that an NMI entry clears the latch (60_exceptions.md R436,
R440, R445, R446; 43_string.md R276; 45_processor_control.md R342).
The single step left over after an NMI or maskable entry and the mark of a WAIT in progress are fields of the model's own (log
entry 29); that a WAIT with marks saves the offset of its byte 9B and loses the marks is the model's choice (log entry 39), and
so are the ticks after the entry (log entry 5) and that an NMI edge counts as soon as the line shows it (log entry 37); that
the end of an entry is a boundary is DEDUCED (log entry 19). -/
def Obligations.Recognition : Prop :=
  (∀ s : State, s.eu.prog = .idle → s.host.byTick = false → s.cpu.midUnit = false →
    let request := s.lines.intr = true ∧ s.cpu.flags.ifl = true ∧ s.cpu.inhibit ≠ .maskable
    let enters := fun k : EntryKind => step s = s.clearOut.enterStep k
    let passes := s.cpu.waiting = true ∧ s.lines.test = true
    let edge := s.nmi.latch = true ∨ s.lines.nmi = true ∧ s.nmi.prev = false
    (passes → s.choose = none ∧
      (s.cpu.halted = false → s.cpu.repActive = none → step s = s.clearOut.goOn.execStep .wait 0 s.clearOut.goOn)) ∧
    (¬passes → s.cpu.stepPending = true → enters .step) ∧
    (¬passes → s.cpu.stepPending = false →
      (s.cpu.inhibit = .all → s.choose = none) ∧
      (s.cpu.inhibit ≠ .all → edge → enters .nmi) ∧
      (s.cpu.inhibit ≠ .all → ¬edge → request → enters .maskable) ∧
      (s.cpu.inhibit ≠ .all → ¬edge → ¬request → s.cpu.tfAtStart = true → enters .step) ∧
      (s.cpu.inhibit ≠ .all → ¬edge → ¬request → s.cpu.tfAtStart = false → s.choose = none))) ∧
  ∀ (t : State) (k : EntryKind),
    let saved := t.cpu.returnIp
    let b := t.beginEntry k
    (saved = match t.cpu.repActive with
      | some r => r.resume
      | none => if t.cpu.waiting then t.cpu.ip - 1 else t.cpu.ip) ∧
    b = { t with
      cpu := { t.cpu with
        repActive := none, waiting := false, segOverride := none, repMark := none, lockMark := false, prefixes := []
        inhibit := .none, tfAtStart := false, stepPending := decide (k ≠ .step) && t.cpu.tfAtStart }
      nmi := if k = .nmi then { latch := false, prev := t.lines.nmi } else t.nmi } ∧
    t.latency k = (if k = .maskable then t.params.intLatency else 0) ∧
    (t.enterStep k = b.afterTicks (t.latency k) fun v =>
      let p := entryProg k saved v.cpu
      let last := fun u : State => u.finish (stepTicks v u 0) true
      if v.host.gaps = [] then last (p.run v) else p.runGaps (taskLocks false (.entry k saved)) v fun _ => last) ∧
    (let c := t.cpu
     (entryProg .nmi saved c).run t = t.entered 2 saved c ∧
     (entryProg .step saved c).run t = t.entered 1 saved c ∧
     (let u := (t.perform .inta).2
      (entryProg .maskable saved c).run t = ((u.perform .inta).2).entered (u.perform .inta).1 saved c))

/-- The ticks in which the execution unit does nothing leave the CPU, if no RESET comes, and each adds one to TICKS
(50_pipeline_bus_timing.md R371; 10_state.md R26).
These ticks are how the model lets a Level A step take time (log entry 5). -/
def Obligations.TimePasses : Prop :=
  ∀ (s t : State) (count : Nat) (b : Bool), (∀ x ∈ s.host.inputs, x.reset = false) → s.pass b count = .next t →
    t.cpu = s.cpu ∧ t.biu.ticks = s.biu.ticks + count

/-- Every step from a safe state is a next state, and it is safe: no step faults or is refused
(20_memory.md R96; 50_pipeline_bus_timing.md R385, R387; 60_exceptions.md R431; 70_reset_and_hazards.md R716). -/
def Obligations.StepKeepsInv : Prop := ∀ s : State, Inv s → ∃ t, step s = .next t ∧ Inv t

/-- The reset state is safe (70_reset_and_hazards.md R700). -/
def Obligations.ResetIsSafe : Prop := Inv State.reset

/-- After power-on and after a RESET event the machine has the values of the table; ROM and the parameters stay, and every byte
of RAM is a new free one (70_reset_and_hazards.md R700; 10_state.md R30).
That every byte of RAM is one free value for each loss of power is the model's form of the draw (log entry 3); the parameters
and the host's side outlive the event (log entry 28).
That a scancode of the same tick meets the freshly reset keyboard path and is refused, that the pin levels of that tick are
dropped, and that a boundary of that tick is not reported are the model's choice (log entries 33, 6 and 42). -/
def Obligations.ResetEvent : Prop :=
  State.reset.AfterReset ∧
  ∀ s t : State, Memory.wf s.params.ramSize s.mem = true → s.resetDue = true → s.tick = .next t →
    t.AfterReset ∧ t.params = s.params ∧ t.memEpoch = s.memEpoch + 1 ∧
    (∀ b, s.input.bind (·.scancode) = some b → t.host.out.getLast? = some (.scancodeRefused b)) ∧
    (∀ a, backing s.params.ramSize a = .rom → t.peek a = s.peek a) ∧
    (∀ a, backing s.params.ramSize a ≠ .rom → t.peek a = Config.powerOnByte (s.memEpoch + 1) (cellKey a))

/-! ## The devices -/

/-- The interrupt controller selects, among the lines whose request the effective mask lets through and that no line in service
keeps out, the one of least rank, and INTR is true exactly if there is such a line. In normal mode a line in service keeps out
those of its own rank and of lower priority, in special fully nested mode those of lower priority, in special mask mode only
itself (61_pic.md R492).
With both special modes set special mask mode wins: the model's choice (log entry 35). -/
def Obligations.PicSelection : Prop :=
  ∀ p : Pic,
    let rank := fun i : BitVec 3 => (i.toNat + 15 - p.lowest.toNat) % 8
    let served := fun j : BitVec 3 => p.isr.getLsbD j.toNat = true
    let eligible := fun i : BitVec 3 =>
      p.irr.getLsbD i.toNat = true ∧ p.imrEff.getLsbD i.toNat = false ∧
        if p.smm then ¬served i
        else if p.sfnm then ∀ j, served j → ¬rank j < rank i
        else ∀ j, served j → ¬rank j ≤ rank i
    (∀ i, p.selected = some i ↔ eligible i ∧ ∀ j, eligible j → rank i ≤ rank j) ∧
    (p.intr = true ↔ ∃ i, eligible i)

/-- The two acknowledge cycles: the selected line goes from request to service, out of service again with automatic end of
interrupt, and its vector is answered; without one the vector is that of line 7 and no line changes
(61_pic.md R496, R497). -/
def Obligations.PicAcknowledge : Prop :=
  ∀ s : State, s.pic.intaPhase = false →
    let first := (s.perform .inta).2
    let second := first.perform .inta
    let p := second.2.pic
    first.pic.intaPhase = true ∧ p.intaPhase = false ∧
    (∀ i, s.pic.selected = some i →
      second.1 = s.pic.vbase ||| i.setWidth 8 ∧
      ∀ j : BitVec 3,
        p.irr.getLsbD j.toNat = (s.pic.irr.getLsbD j.toNat && decide (j ≠ i)) ∧
        p.isr.getLsbD j.toNat = (if j = i then !s.pic.aeoi else s.pic.isr.getLsbD j.toNat)) ∧
    (s.pic.selected = none → second.1 = s.pic.vbase ||| 7 ∧ p.irr = s.pic.irr ∧ p.isr = s.pic.isr)

/-- A timer channel in mode 2 with reload value N repeats itself every N timer ticks, its output low in one of them; in mode 0
the output rises N + 1 timer ticks after the value was written (62_pit.md R531, R533).
The mark for a free count is a field of the model's own (log entry 14). -/
def Obligations.TimerCounts : Prop :=
  ∀ (c : PitChannel) (w : Word) (b : Bool), c.bcd = false → c.wild = false →
    (c.mode = some .m2 → c.trig = false → c.load = false → c.run = true → c.outv = true → c.ce = c.cr → c.cr ≠ 1 →
      (∀ k, k < c.number →
        let d := c.after w b k
        d.ce = BitVec.ofNat 16 (c.number - k) ∧ d.outv = decide (k ≠ c.number - 1)) ∧
      c.after w b c.number = c) ∧
    (c.mode = some .m0 → c.load = true → c.outv = false →
      ∀ k, k ≤ c.number →
        let d := c.after w b (k + 1)
        d.ce = BitVec.ofNat 16 (c.number - k) ∧ d.outv = decide (k = c.number))

/-- A DMA channel with count N makes N + 1 transfers up to its terminal count, one address further each time; then it reloads
itself or stops at count 0xFFFF. At terminal count the status bit is set and, without self-reload, the channel masked
(63_dma.md R571, R600). -/
def Obligations.DmaCounts : Prop :=
  (∀ (h : DmaChannel) (k : Nat), k ≤ h.curCnt.toNat →
    (h.after k).curCnt = h.curCnt - BitVec.ofNat 16 k ∧ (h.after k).curAddr = h.moved k) ∧
  (∀ h : DmaChannel,
    h.after (h.curCnt.toNat + 1) =
      if h.autoInit then { h with curAddr := h.baseAddr, curCnt := h.baseCnt }
      else { h with curAddr := h.moved (h.curCnt.toNat + 1), curCnt := 0xFFFF }) ∧
  (∀ (cycle : Nat) (d : Dma) (c : BitVec 2), (d.channel c).curCnt = 0 →
    let e := d.advance cycle c
    e.tcBits.getLsbD c.toNat = true ∧ e.sreq.getLsbD c.toNat = false ∧ e.tcPulse = true ∧
    e.dmask.getLsbD c.toNat = (!(d.channel c).autoInit || d.dmask.getLsbD c.toNat))

/-- The keyboard path: an accepted scancode fills the shift register, which accepts no other, raises IRQ1 and is what port A
reads; bit 7 of port B empties it (64_ppi.md R627, R631). -/
def Obligations.KeyboardPath : Prop :=
  (∀ (p : Ppi) (q : Params) (b : Byte), p.accepts = true →
    (p.scancode b).accepts = false ∧ (p.aIsInput = true → (p.scancode b).readA q = b)) ∧
  (∀ p : Ppi, p.pb 7 = true → p.accepts = false ∧ p.tick.kbFull = false ∧ p.tick.kbByte = 0) ∧
  (∀ (s : State) (hlda : Bool), (s.newLines hlda).irq.getLsbD 1 = s.ppi.kbFull)

/-- A scanline lasts R0 + 1 character clocks: the character counter counts up to R0, and only then do the counters of the row
and the frame move (65_video.md R652, R653).
The number of the scanline in its frame is a field of the model's own (log entry 16). -/
def Obligations.ScanlineLength : Prop :=
  ∀ v : Video, v.hcc = 0 →
    (∀ k, k ≤ v.crtc.r0.toNat →
      let u := v.after k
      u.hcc = BitVec.ofNat 8 k ∧ u.vcc = v.vcc ∧ u.vlc = v.vlc ∧ u.vtac = v.vtac ∧ u.inVta = v.inVta ∧
        u.frame = v.frame ∧ u.lineNo = v.lineNo ∧ u.vma = v.vma + BitVec.ofNat 14 k) ∧
    (let u := v.after (v.crtc.r0.toNat + 1)
     u.hcc = 0 ∧ u.lineNo = (if v.endsFrame then 0 else v.lineNo + 1) ∧
       u.frame = (if v.endsFrame then v.frame + 1 else v.frame) ∧ u.vma = u.vmaRow)
end

