-- ==== Sys2Proof/Laws/Access.lean ====
section
/-!
SUPPORT. The accesses of a program: none of them is a code fetch, those being the bus interface unit's own
(50_pipeline_bus_timing.md R386).
-/
namespace Sys2Proof.Machine

/-- A code fetch. -/
def BusReq.isCode : BusReq → Bool
  | .code _ => true
  | .memR _ | .memW _ _ | .ioR _ | .ioW _ _ | .inta => false

/-- No access of a program is a code fetch. -/
def Prog.dataOnly : Prog → Prop
  | .bus r k => r.isCode = false ∧ ∀ b, (k b).dataOnly
  | .test k => ∀ t, (k t).dataOnly
  | .note _ p => p.dataOnly
  | .retire _ | .transfer _ | .more _ => True

/-! ## The operations -/

theorem dataOnly_readWord {seg off : Word} {k : Word → Prog} (h : ∀ v, (k v).dataOnly) : (readWord seg off k).dataOnly :=
  ⟨rfl, fun _ => ⟨rfl, fun _ => h _⟩⟩

theorem dataOnly_writeWord {seg off v : Word} {p : Prog} (h : p.dataOnly) : (writeWord seg off v p).dataOnly :=
  ⟨rfl, fun _ => ⟨rfl, fun _ => h⟩⟩

theorem dataOnly_push16 {v : Word} {c : Cpu} {k : Cpu → Prog} (h : ∀ d, (k d).dataOnly) : (push16 v c k).dataOnly :=
  dataOnly_writeWord (h _)

theorem dataOnly_pop16 {c : Cpu} {k : Word → Cpu → Prog} (h : ∀ v d, (k v d).dataOnly) : (pop16 c k).dataOnly :=
  dataOnly_readWord fun _ => h _ _

theorem dataOnly_enter (n : Byte) (ip : Word) (c : Cpu) : (enter n ip c).dataOnly :=
  dataOnly_push16 fun _ => dataOnly_push16 fun _ => dataOnly_push16 fun _ =>
    ⟨rfl, fun _ => ⟨rfl, fun _ => ⟨rfl, fun _ => ⟨rfl, fun _ => trivial⟩⟩⟩⟩

theorem dataOnly_divideError (c : Cpu) : (divideError c).dataOnly := dataOnly_enter ..

theorem dataOnly_leave (c : Cpu) : (leave c).dataOnly :=
  dataOnly_pop16 fun _ _ => dataOnly_pop16 fun _ _ => dataOnly_pop16 fun _ _ => trivial

theorem dataOnly_readPointer {m : Mem} {c : Cpu} {k : Word → Word → Prog} (h : ∀ o s, (k o s).dataOnly) :
    (readPointer m c k).dataOnly := dataOnly_readWord fun _ => dataOnly_readWord fun _ => h _ _

theorem dataOnly_popSeg (sr : SReg) (c : Cpu) : (popSeg sr c).dataOnly := dataOnly_pop16 (k := fun v d => .retire (d.loadSeg sr v)) fun _ _ => trivial

theorem dataOnly_callFar (seg off : Word) (c : Cpu) : (callFar seg off c).dataOnly :=
  dataOnly_push16 (k := fun d => push16 c.ip d fun e => jumpFar seg off e) fun _ => dataOnly_push16 (k := jumpFar seg off) fun _ => trivial

theorem dataOnly_returnNear (release : Word) (c : Cpu) : (returnNear release c).dataOnly :=
  dataOnly_pop16 (k := fun ip d => jumpTo ip { d with sp := d.sp + release }) fun _ _ => trivial

theorem dataOnly_returnFar (release : Word) (c : Cpu) : (returnFar release c).dataOnly :=
  dataOnly_pop16 (k := fun ip d => pop16 d fun cs e => jumpFar cs ip { e with sp := e.sp + release }) fun ip _ =>
    dataOnly_pop16 (k := fun cs e => jumpFar cs ip { e with sp := e.sp + release }) fun _ _ => trivial

/-- A width none of whose accesses is a code fetch. -/
structure Width.DataOnly {n : Nat} {R : Type} (w : Width n R) : Prop where
  read : ∀ seg off k, (∀ v, (k v).dataOnly) → (w.read seg off k).dataOnly
  write : ∀ seg off v p, p.dataOnly → (w.write seg off v p).dataOnly
  input : ∀ q k, (∀ v, (k v).dataOnly) → (w.input q k).dataOnly
  output : ∀ q v p, p.dataOnly → (w.output q v p).dataOnly

theorem byteWidth_dataOnly : byteWidth.DataOnly :=
  { read := fun _ _ _ h => ⟨rfl, h⟩, write := fun _ _ _ _ h => ⟨rfl, fun _ => h⟩
    input := fun _ _ h => ⟨rfl, h⟩, output := fun _ _ _ h => ⟨rfl, fun _ => h⟩ }

theorem wordWidth_dataOnly : wordWidth.DataOnly :=
  { read := fun _ _ _ h => dataOnly_readWord h, write := fun _ _ _ _ h => dataOnly_writeWord h
    input := fun _ _ h => ⟨rfl, fun _ => ⟨rfl, fun _ => h _⟩⟩
    output := fun _ _ _ h => ⟨rfl, fun _ => ⟨rfl, fun _ => h⟩⟩ }

section
variable {n : Nat} {R : Type} {w : Width n R} (hw : w.DataOnly)
include hw

theorem dataOnly_load {c : Cpu} {p : Place R} {k : BitVec n → Prog} (h : ∀ v, (k v).dataOnly) : (w.load c p k).dataOnly := by
  cases p with
  | reg r => exact h _
  | mem g o => exact hw.read _ _ _ h

theorem dataOnly_store {c : Cpu} {p : Place R} {v : BitVec n} {k : Cpu → Prog} (h : ∀ d, (k d).dataOnly) :
    (w.store c p v k).dataOnly := by
  cases p with
  | reg r => exact h _
  | mem g o => exact hw.write _ _ _ _ (h _)

theorem dataOnly_aluInto (op : AluOp) (p : Place R) (a b : BitVec n) (c : Cpu) : (aluInto w op p a b c).dataOnly := by
  unfold aluInto
  split
  · trivial
  · exact dataOnly_store hw fun _ => trivial

theorem dataOnly_aluRmReg (op : AluOp) (rm : RM R) (reg : R) (c : Cpu) : (aluRmReg w op rm reg c).dataOnly :=
  dataOnly_load hw fun _ => dataOnly_aluInto hw ..

theorem dataOnly_aluRegRm (op : AluOp) (reg : R) (rm : RM R) (c : Cpu) : (aluRegRm w op reg rm c).dataOnly :=
  dataOnly_load hw fun _ => dataOnly_aluInto hw ..

theorem dataOnly_aluAcc (op : AluOp) (imm : BitVec n) (c : Cpu) : (aluAcc w op imm c).dataOnly := dataOnly_aluInto hw ..

theorem dataOnly_aluRmImm (op : AluOp) (rm : RM R) (imm : BitVec n) (c : Cpu) : (aluRmImm w op rm imm c).dataOnly :=
  dataOnly_load hw fun _ => dataOnly_aluInto hw ..

theorem dataOnly_testRmReg (rm : RM R) (reg : R) (c : Cpu) : (testRmReg w rm reg c).dataOnly :=
  dataOnly_load hw fun _ => trivial

theorem dataOnly_testRmImm (rm : RM R) (imm : BitVec n) (c : Cpu) : (testRmImm w rm imm c).dataOnly :=
  dataOnly_load hw fun _ => trivial

theorem dataOnly_modify (rm : RM R) (f : BitVec n → BitVec n) (g : BitVec n → Cpu → Cpu) (c : Cpu) :
    (Machine.modify w rm f g c).dataOnly := dataOnly_load hw fun _ => dataOnly_store hw fun _ => trivial

theorem dataOnly_incRm (rm : RM R) (c : Cpu) : (incRm w rm c).dataOnly := by unfold incRm; exact dataOnly_modify hw ..

theorem dataOnly_decRm (rm : RM R) (c : Cpu) : (decRm w rm c).dataOnly := by unfold decRm; exact dataOnly_modify hw ..

theorem dataOnly_negRm (rm : RM R) (c : Cpu) : (negRm w rm c).dataOnly := by unfold negRm; exact dataOnly_modify hw ..

theorem dataOnly_notRm (rm : RM R) (c : Cpu) : (notRm w rm c).dataOnly := by unfold notRm; exact dataOnly_modify hw ..

theorem dataOnly_shiftRm (op : ShiftOp) (rm : RM R) (count : Nat) (c : Cpu) : (shiftRm w op rm count c).dataOnly := by
  unfold shiftRm
  exact dataOnly_modify hw ..

theorem dataOnly_shiftRmCl (op : ShiftOp) (rm : RM R) (c : Cpu) : (shiftRmCl w op rm c).dataOnly := by
  unfold shiftRmCl
  exact dataOnly_shiftRm hw ..

theorem dataOnly_movTo (rm : RM R) (v : BitVec n) (c : Cpu) : (movTo w rm v c).dataOnly := dataOnly_store hw fun _ => trivial

theorem dataOnly_movFrom (reg : R) (rm : RM R) (c : Cpu) : (movFrom w reg rm c).dataOnly := dataOnly_load hw fun _ => trivial

theorem dataOnly_exchange (rm : RM R) (reg : R) (c : Cpu) : (exchange w rm reg c).dataOnly :=
  dataOnly_load hw fun _ => dataOnly_store hw fun _ => trivial

theorem dataOnly_input (p : Word) (c : Cpu) : (input w p c).dataOnly := hw.input _ _ fun _ => trivial

theorem dataOnly_output (p : Word) (c : Cpu) : (output w p c).dataOnly := hw.output _ _ _ trivial

theorem dataOnly_iteration (op : StringOp) (c : Cpu) (k : Cpu → Prog) (h : ∀ d, (k d).dataOnly) :
    (iteration w op c k).dataOnly := by
  cases op with
  | movs => exact hw.read _ _ _ fun _ => hw.write _ _ _ _ (h _)
  | cmps => exact hw.read _ _ _ fun _ => hw.read _ _ _ fun _ => h _
  | scas => exact hw.read _ _ _ fun _ => h _
  | lods => exact hw.read _ _ _ fun _ => h _
  | stos => exact hw.write _ _ _ _ (h _)

theorem dataOnly_stringInstr (op : StringOp) (o : Byte) (c : Cpu) : (stringInstr w op o c).dataOnly := by
  unfold stringInstr
  split
  · exact dataOnly_iteration hw _ _ _ fun _ => trivial
  · split
    · trivial
    · exact dataOnly_iteration hw _ _ _ fun d => by unfold afterIteration; dsimp only; split <;> trivial
end

theorem dataOnly_finishByteDivide (r : Option (Byte × Byte)) (c : Cpu) : (finishByteDivide r c).dataOnly := by
  cases r with
  | none => exact dataOnly_divideError c
  | some x => trivial

theorem dataOnly_finishWordDivide (r : Option (Word × Word)) (c : Cpu) : (finishWordDivide r c).dataOnly := by
  cases r with
  | none => exact dataOnly_divideError c
  | some x => trivial

theorem dataOnly_jumpIf (b : Bool) (d : Byte) (c : Cpu) : (jumpIf b d c).dataOnly := by
  unfold jumpIf
  split <;> trivial

theorem dataOnly_aam (imm : Byte) (c : Cpu) : (progAam imm c).dataOnly := by
  unfold progAam
  split
  · exact dataOnly_divideError c
  · trivial

theorem dataOnly_into (c : Cpu) : (progInto c).dataOnly := by
  unfold progInto
  split
  · exact dataOnly_enter ..
  · trivial

theorem dataOnly_wait (c : Cpu) : (progWait c).dataOnly := fun t => by cases t <;> trivial

theorem dataOnly_pushEv (rm : RM16) (c : Cpu) : (progPushEv rm c).dataOnly := by
  unfold progPushEv
  split
  · exact dataOnly_push16 (k := .retire) fun _ => trivial
  · exact dataOnly_push16 (k := .retire) fun _ => trivial
  · exact dataOnly_readWord fun v => dataOnly_push16 (v := v) (k := .retire) fun _ => trivial

theorem dataOnly_esc (op reg : Oct) (rm : RM16) (c : Cpu) : (progEsc op reg rm c).dataOnly := by
  cases rm with
  | reg r => trivial
  | mem m => exact dataOnly_readWord (k := fun _ => .retire c) fun _ => trivial

/-! ## The instructions -/

theorem dataOnly_addEbGb (rm : RM8) (reg : Reg8) (c : Cpu) : (progAddEbGb rm reg c).dataOnly := dataOnly_aluRmReg byteWidth_dataOnly .add rm reg c
theorem dataOnly_addEvGv (rm : RM16) (reg : Reg16) (c : Cpu) : (progAddEvGv rm reg c).dataOnly := dataOnly_aluRmReg wordWidth_dataOnly .add rm reg c
theorem dataOnly_addGbEb (reg : Reg8) (rm : RM8) (c : Cpu) : (progAddGbEb reg rm c).dataOnly := dataOnly_aluRegRm byteWidth_dataOnly .add reg rm c
theorem dataOnly_addGvEv (reg : Reg16) (rm : RM16) (c : Cpu) : (progAddGvEv reg rm c).dataOnly := dataOnly_aluRegRm wordWidth_dataOnly .add reg rm c
theorem dataOnly_addALIb (imm : Byte) (c : Cpu) : (progAddALIb imm c).dataOnly := dataOnly_aluAcc byteWidth_dataOnly .add imm c
theorem dataOnly_addAXIv (imm : Word) (c : Cpu) : (progAddAXIv imm c).dataOnly := dataOnly_aluAcc wordWidth_dataOnly .add imm c
theorem dataOnly_orEbGb (rm : RM8) (reg : Reg8) (c : Cpu) : (progOrEbGb rm reg c).dataOnly := dataOnly_aluRmReg byteWidth_dataOnly .or rm reg c
theorem dataOnly_orEvGv (rm : RM16) (reg : Reg16) (c : Cpu) : (progOrEvGv rm reg c).dataOnly := dataOnly_aluRmReg wordWidth_dataOnly .or rm reg c
theorem dataOnly_orGbEb (reg : Reg8) (rm : RM8) (c : Cpu) : (progOrGbEb reg rm c).dataOnly := dataOnly_aluRegRm byteWidth_dataOnly .or reg rm c
theorem dataOnly_orGvEv (reg : Reg16) (rm : RM16) (c : Cpu) : (progOrGvEv reg rm c).dataOnly := dataOnly_aluRegRm wordWidth_dataOnly .or reg rm c
theorem dataOnly_orALIb (imm : Byte) (c : Cpu) : (progOrALIb imm c).dataOnly := dataOnly_aluAcc byteWidth_dataOnly .or imm c
theorem dataOnly_orAXIv (imm : Word) (c : Cpu) : (progOrAXIv imm c).dataOnly := dataOnly_aluAcc wordWidth_dataOnly .or imm c
theorem dataOnly_adcEbGb (rm : RM8) (reg : Reg8) (c : Cpu) : (progAdcEbGb rm reg c).dataOnly := dataOnly_aluRmReg byteWidth_dataOnly .adc rm reg c
theorem dataOnly_adcEvGv (rm : RM16) (reg : Reg16) (c : Cpu) : (progAdcEvGv rm reg c).dataOnly := dataOnly_aluRmReg wordWidth_dataOnly .adc rm reg c
theorem dataOnly_adcGbEb (reg : Reg8) (rm : RM8) (c : Cpu) : (progAdcGbEb reg rm c).dataOnly := dataOnly_aluRegRm byteWidth_dataOnly .adc reg rm c
theorem dataOnly_adcGvEv (reg : Reg16) (rm : RM16) (c : Cpu) : (progAdcGvEv reg rm c).dataOnly := dataOnly_aluRegRm wordWidth_dataOnly .adc reg rm c
theorem dataOnly_adcALIb (imm : Byte) (c : Cpu) : (progAdcALIb imm c).dataOnly := dataOnly_aluAcc byteWidth_dataOnly .adc imm c
theorem dataOnly_adcAXIv (imm : Word) (c : Cpu) : (progAdcAXIv imm c).dataOnly := dataOnly_aluAcc wordWidth_dataOnly .adc imm c
theorem dataOnly_sbbEbGb (rm : RM8) (reg : Reg8) (c : Cpu) : (progSbbEbGb rm reg c).dataOnly := dataOnly_aluRmReg byteWidth_dataOnly .sbb rm reg c
theorem dataOnly_sbbEvGv (rm : RM16) (reg : Reg16) (c : Cpu) : (progSbbEvGv rm reg c).dataOnly := dataOnly_aluRmReg wordWidth_dataOnly .sbb rm reg c
theorem dataOnly_sbbGbEb (reg : Reg8) (rm : RM8) (c : Cpu) : (progSbbGbEb reg rm c).dataOnly := dataOnly_aluRegRm byteWidth_dataOnly .sbb reg rm c
theorem dataOnly_sbbGvEv (reg : Reg16) (rm : RM16) (c : Cpu) : (progSbbGvEv reg rm c).dataOnly := dataOnly_aluRegRm wordWidth_dataOnly .sbb reg rm c
theorem dataOnly_sbbALIb (imm : Byte) (c : Cpu) : (progSbbALIb imm c).dataOnly := dataOnly_aluAcc byteWidth_dataOnly .sbb imm c
theorem dataOnly_sbbAXIv (imm : Word) (c : Cpu) : (progSbbAXIv imm c).dataOnly := dataOnly_aluAcc wordWidth_dataOnly .sbb imm c
theorem dataOnly_andEbGb (rm : RM8) (reg : Reg8) (c : Cpu) : (progAndEbGb rm reg c).dataOnly := dataOnly_aluRmReg byteWidth_dataOnly .and rm reg c
theorem dataOnly_andEvGv (rm : RM16) (reg : Reg16) (c : Cpu) : (progAndEvGv rm reg c).dataOnly := dataOnly_aluRmReg wordWidth_dataOnly .and rm reg c
theorem dataOnly_andGbEb (reg : Reg8) (rm : RM8) (c : Cpu) : (progAndGbEb reg rm c).dataOnly := dataOnly_aluRegRm byteWidth_dataOnly .and reg rm c
theorem dataOnly_andGvEv (reg : Reg16) (rm : RM16) (c : Cpu) : (progAndGvEv reg rm c).dataOnly := dataOnly_aluRegRm wordWidth_dataOnly .and reg rm c
theorem dataOnly_andALIb (imm : Byte) (c : Cpu) : (progAndALIb imm c).dataOnly := dataOnly_aluAcc byteWidth_dataOnly .and imm c
theorem dataOnly_andAXIv (imm : Word) (c : Cpu) : (progAndAXIv imm c).dataOnly := dataOnly_aluAcc wordWidth_dataOnly .and imm c
theorem dataOnly_subEbGb (rm : RM8) (reg : Reg8) (c : Cpu) : (progSubEbGb rm reg c).dataOnly := dataOnly_aluRmReg byteWidth_dataOnly .sub rm reg c
theorem dataOnly_subEvGv (rm : RM16) (reg : Reg16) (c : Cpu) : (progSubEvGv rm reg c).dataOnly := dataOnly_aluRmReg wordWidth_dataOnly .sub rm reg c
theorem dataOnly_subGbEb (reg : Reg8) (rm : RM8) (c : Cpu) : (progSubGbEb reg rm c).dataOnly := dataOnly_aluRegRm byteWidth_dataOnly .sub reg rm c
theorem dataOnly_subGvEv (reg : Reg16) (rm : RM16) (c : Cpu) : (progSubGvEv reg rm c).dataOnly := dataOnly_aluRegRm wordWidth_dataOnly .sub reg rm c
theorem dataOnly_subALIb (imm : Byte) (c : Cpu) : (progSubALIb imm c).dataOnly := dataOnly_aluAcc byteWidth_dataOnly .sub imm c
theorem dataOnly_subAXIv (imm : Word) (c : Cpu) : (progSubAXIv imm c).dataOnly := dataOnly_aluAcc wordWidth_dataOnly .sub imm c
theorem dataOnly_xorEbGb (rm : RM8) (reg : Reg8) (c : Cpu) : (progXorEbGb rm reg c).dataOnly := dataOnly_aluRmReg byteWidth_dataOnly .xor rm reg c
theorem dataOnly_xorEvGv (rm : RM16) (reg : Reg16) (c : Cpu) : (progXorEvGv rm reg c).dataOnly := dataOnly_aluRmReg wordWidth_dataOnly .xor rm reg c
theorem dataOnly_xorGbEb (reg : Reg8) (rm : RM8) (c : Cpu) : (progXorGbEb reg rm c).dataOnly := dataOnly_aluRegRm byteWidth_dataOnly .xor reg rm c
theorem dataOnly_xorGvEv (reg : Reg16) (rm : RM16) (c : Cpu) : (progXorGvEv reg rm c).dataOnly := dataOnly_aluRegRm wordWidth_dataOnly .xor reg rm c
theorem dataOnly_xorALIb (imm : Byte) (c : Cpu) : (progXorALIb imm c).dataOnly := dataOnly_aluAcc byteWidth_dataOnly .xor imm c
theorem dataOnly_xorAXIv (imm : Word) (c : Cpu) : (progXorAXIv imm c).dataOnly := dataOnly_aluAcc wordWidth_dataOnly .xor imm c
theorem dataOnly_cmpEbGb (rm : RM8) (reg : Reg8) (c : Cpu) : (progCmpEbGb rm reg c).dataOnly := dataOnly_aluRmReg byteWidth_dataOnly .cmp rm reg c
theorem dataOnly_cmpEvGv (rm : RM16) (reg : Reg16) (c : Cpu) : (progCmpEvGv rm reg c).dataOnly := dataOnly_aluRmReg wordWidth_dataOnly .cmp rm reg c
theorem dataOnly_cmpGbEb (reg : Reg8) (rm : RM8) (c : Cpu) : (progCmpGbEb reg rm c).dataOnly := dataOnly_aluRegRm byteWidth_dataOnly .cmp reg rm c
theorem dataOnly_cmpGvEv (reg : Reg16) (rm : RM16) (c : Cpu) : (progCmpGvEv reg rm c).dataOnly := dataOnly_aluRegRm wordWidth_dataOnly .cmp reg rm c
theorem dataOnly_cmpALIb (imm : Byte) (c : Cpu) : (progCmpALIb imm c).dataOnly := dataOnly_aluAcc byteWidth_dataOnly .cmp imm c
theorem dataOnly_cmpAXIv (imm : Word) (c : Cpu) : (progCmpAXIv imm c).dataOnly := dataOnly_aluAcc wordWidth_dataOnly .cmp imm c
theorem dataOnly_incReg16 (r : Reg16) (c : Cpu) : (progIncReg16 r c).dataOnly := dataOnly_incRm wordWidth_dataOnly (.reg r) c
theorem dataOnly_decReg16 (r : Reg16) (c : Cpu) : (progDecReg16 r c).dataOnly := dataOnly_decRm wordWidth_dataOnly (.reg r) c
theorem dataOnly_pushReg16 (r : Reg16) (c : Cpu) : (progPushReg16 r c).dataOnly := dataOnly_push16 (k := .retire) fun _ => trivial
theorem dataOnly_popReg16 (r : Reg16) (c : Cpu) : (progPopReg16 r c).dataOnly := dataOnly_pop16 (k := fun v d => .retire (d.set16 r v)) fun _ _ => trivial
theorem dataOnly_jcc60 (cc : Cond) (disp : Byte) (c : Cpu) : (progJcc60 cc disp c).dataOnly := dataOnly_jumpIf (condHolds c.flags cc) disp c
theorem dataOnly_jcc (cc : Cond) (disp : Byte) (c : Cpu) : (progJcc cc disp c).dataOnly := dataOnly_jumpIf (condHolds c.flags cc) disp c
theorem dataOnly_addEbIb (rm : RM8) (imm : Byte) (c : Cpu) : (progAddEbIb rm imm c).dataOnly := dataOnly_aluRmImm byteWidth_dataOnly .add rm imm c
theorem dataOnly_orEbIb (rm : RM8) (imm : Byte) (c : Cpu) : (progOrEbIb rm imm c).dataOnly := dataOnly_aluRmImm byteWidth_dataOnly .or rm imm c
theorem dataOnly_adcEbIb (rm : RM8) (imm : Byte) (c : Cpu) : (progAdcEbIb rm imm c).dataOnly := dataOnly_aluRmImm byteWidth_dataOnly .adc rm imm c
theorem dataOnly_sbbEbIb (rm : RM8) (imm : Byte) (c : Cpu) : (progSbbEbIb rm imm c).dataOnly := dataOnly_aluRmImm byteWidth_dataOnly .sbb rm imm c
theorem dataOnly_andEbIb (rm : RM8) (imm : Byte) (c : Cpu) : (progAndEbIb rm imm c).dataOnly := dataOnly_aluRmImm byteWidth_dataOnly .and rm imm c
theorem dataOnly_subEbIb (rm : RM8) (imm : Byte) (c : Cpu) : (progSubEbIb rm imm c).dataOnly := dataOnly_aluRmImm byteWidth_dataOnly .sub rm imm c
theorem dataOnly_xorEbIb (rm : RM8) (imm : Byte) (c : Cpu) : (progXorEbIb rm imm c).dataOnly := dataOnly_aluRmImm byteWidth_dataOnly .xor rm imm c
theorem dataOnly_cmpEbIb (rm : RM8) (imm : Byte) (c : Cpu) : (progCmpEbIb rm imm c).dataOnly := dataOnly_aluRmImm byteWidth_dataOnly .cmp rm imm c
theorem dataOnly_addEvIv (rm : RM16) (imm : Word) (c : Cpu) : (progAddEvIv rm imm c).dataOnly := dataOnly_aluRmImm wordWidth_dataOnly .add rm imm c
theorem dataOnly_orEvIv (rm : RM16) (imm : Word) (c : Cpu) : (progOrEvIv rm imm c).dataOnly := dataOnly_aluRmImm wordWidth_dataOnly .or rm imm c
theorem dataOnly_adcEvIv (rm : RM16) (imm : Word) (c : Cpu) : (progAdcEvIv rm imm c).dataOnly := dataOnly_aluRmImm wordWidth_dataOnly .adc rm imm c
theorem dataOnly_sbbEvIv (rm : RM16) (imm : Word) (c : Cpu) : (progSbbEvIv rm imm c).dataOnly := dataOnly_aluRmImm wordWidth_dataOnly .sbb rm imm c
theorem dataOnly_andEvIv (rm : RM16) (imm : Word) (c : Cpu) : (progAndEvIv rm imm c).dataOnly := dataOnly_aluRmImm wordWidth_dataOnly .and rm imm c
theorem dataOnly_subEvIv (rm : RM16) (imm : Word) (c : Cpu) : (progSubEvIv rm imm c).dataOnly := dataOnly_aluRmImm wordWidth_dataOnly .sub rm imm c
theorem dataOnly_xorEvIv (rm : RM16) (imm : Word) (c : Cpu) : (progXorEvIv rm imm c).dataOnly := dataOnly_aluRmImm wordWidth_dataOnly .xor rm imm c
theorem dataOnly_cmpEvIv (rm : RM16) (imm : Word) (c : Cpu) : (progCmpEvIv rm imm c).dataOnly := dataOnly_aluRmImm wordWidth_dataOnly .cmp rm imm c
theorem dataOnly_addEbIb82 (rm : RM8) (imm : Byte) (c : Cpu) : (progAddEbIb82 rm imm c).dataOnly := dataOnly_aluRmImm byteWidth_dataOnly .add rm imm c
theorem dataOnly_orEbIb82 (rm : RM8) (imm : Byte) (c : Cpu) : (progOrEbIb82 rm imm c).dataOnly := dataOnly_aluRmImm byteWidth_dataOnly .or rm imm c
theorem dataOnly_adcEbIb82 (rm : RM8) (imm : Byte) (c : Cpu) : (progAdcEbIb82 rm imm c).dataOnly := dataOnly_aluRmImm byteWidth_dataOnly .adc rm imm c
theorem dataOnly_sbbEbIb82 (rm : RM8) (imm : Byte) (c : Cpu) : (progSbbEbIb82 rm imm c).dataOnly := dataOnly_aluRmImm byteWidth_dataOnly .sbb rm imm c
theorem dataOnly_andEbIb82 (rm : RM8) (imm : Byte) (c : Cpu) : (progAndEbIb82 rm imm c).dataOnly := dataOnly_aluRmImm byteWidth_dataOnly .and rm imm c
theorem dataOnly_subEbIb82 (rm : RM8) (imm : Byte) (c : Cpu) : (progSubEbIb82 rm imm c).dataOnly := dataOnly_aluRmImm byteWidth_dataOnly .sub rm imm c
theorem dataOnly_xorEbIb82 (rm : RM8) (imm : Byte) (c : Cpu) : (progXorEbIb82 rm imm c).dataOnly := dataOnly_aluRmImm byteWidth_dataOnly .xor rm imm c
theorem dataOnly_cmpEbIb82 (rm : RM8) (imm : Byte) (c : Cpu) : (progCmpEbIb82 rm imm c).dataOnly := dataOnly_aluRmImm byteWidth_dataOnly .cmp rm imm c
theorem dataOnly_addEvIbs (rm : RM16) (imm : Byte) (c : Cpu) : (progAddEvIbs rm imm c).dataOnly := dataOnly_aluRmImm wordWidth_dataOnly .add rm (sext imm) c
theorem dataOnly_orEvIbs (rm : RM16) (imm : Byte) (c : Cpu) : (progOrEvIbs rm imm c).dataOnly := dataOnly_aluRmImm wordWidth_dataOnly .or rm (sext imm) c
theorem dataOnly_adcEvIbs (rm : RM16) (imm : Byte) (c : Cpu) : (progAdcEvIbs rm imm c).dataOnly := dataOnly_aluRmImm wordWidth_dataOnly .adc rm (sext imm) c
theorem dataOnly_sbbEvIbs (rm : RM16) (imm : Byte) (c : Cpu) : (progSbbEvIbs rm imm c).dataOnly := dataOnly_aluRmImm wordWidth_dataOnly .sbb rm (sext imm) c
theorem dataOnly_andEvIbs (rm : RM16) (imm : Byte) (c : Cpu) : (progAndEvIbs rm imm c).dataOnly := dataOnly_aluRmImm wordWidth_dataOnly .and rm (sext imm) c
theorem dataOnly_subEvIbs (rm : RM16) (imm : Byte) (c : Cpu) : (progSubEvIbs rm imm c).dataOnly := dataOnly_aluRmImm wordWidth_dataOnly .sub rm (sext imm) c
theorem dataOnly_xorEvIbs (rm : RM16) (imm : Byte) (c : Cpu) : (progXorEvIbs rm imm c).dataOnly := dataOnly_aluRmImm wordWidth_dataOnly .xor rm (sext imm) c
theorem dataOnly_cmpEvIbs (rm : RM16) (imm : Byte) (c : Cpu) : (progCmpEvIbs rm imm c).dataOnly := dataOnly_aluRmImm wordWidth_dataOnly .cmp rm (sext imm) c
theorem dataOnly_testEbGb (rm : RM8) (reg : Reg8) (c : Cpu) : (progTestEbGb rm reg c).dataOnly := dataOnly_testRmReg byteWidth_dataOnly rm reg c
theorem dataOnly_testEvGv (rm : RM16) (reg : Reg16) (c : Cpu) : (progTestEvGv rm reg c).dataOnly := dataOnly_testRmReg wordWidth_dataOnly rm reg c
theorem dataOnly_xchgEbGb (rm : RM8) (reg : Reg8) (c : Cpu) : (progXchgEbGb rm reg c).dataOnly := dataOnly_exchange byteWidth_dataOnly rm reg c
theorem dataOnly_xchgEvGv (rm : RM16) (reg : Reg16) (c : Cpu) : (progXchgEvGv rm reg c).dataOnly := dataOnly_exchange wordWidth_dataOnly rm reg c
theorem dataOnly_movEbGb (rm : RM8) (reg : Reg8) (c : Cpu) : (progMovEbGb rm reg c).dataOnly := dataOnly_movTo byteWidth_dataOnly rm (c.r8 reg) c
theorem dataOnly_movEvGv (rm : RM16) (reg : Reg16) (c : Cpu) : (progMovEvGv rm reg c).dataOnly := dataOnly_movTo wordWidth_dataOnly rm (c.r16 reg) c
theorem dataOnly_movGbEb (reg : Reg8) (rm : RM8) (c : Cpu) : (progMovGbEb reg rm c).dataOnly := dataOnly_movFrom byteWidth_dataOnly reg rm c
theorem dataOnly_movGvEv (reg : Reg16) (rm : RM16) (c : Cpu) : (progMovGvEv reg rm c).dataOnly := dataOnly_movFrom wordWidth_dataOnly reg rm c
theorem dataOnly_movEwSw (rm : RM16) (sr : SReg) (c : Cpu) : (progMovEwSw rm sr c).dataOnly := dataOnly_movTo wordWidth_dataOnly rm (c.seg sr) c
theorem dataOnly_movEwSwHi (rm : RM16) (sr : SReg) (c : Cpu) : (progMovEwSwHi rm sr c).dataOnly := dataOnly_movTo wordWidth_dataOnly rm (c.seg sr) c
theorem dataOnly_lea (reg : Reg16) (m : Mem) (c : Cpu) : (progLea reg m c).dataOnly := trivial
theorem dataOnly_undefLea (_reg : Reg16) (_rm : Reg16) (c : Cpu) : (progUndefLea _reg _rm c).dataOnly := trivial
theorem dataOnly_movSwEw (sr : SReg) (rm : RM16) (c : Cpu) : (progMovSwEw sr rm c).dataOnly := dataOnly_load wordWidth_dataOnly (k := fun v => .retire (c.loadSeg sr v)) fun _ => trivial
theorem dataOnly_movSwEwHi (sr : SReg) (rm : RM16) (c : Cpu) : (progMovSwEwHi sr rm c).dataOnly := dataOnly_load wordWidth_dataOnly (k := fun v => .retire (c.loadSeg sr v)) fun _ => trivial
theorem dataOnly_popEv (rm : RM16) (c : Cpu) : (progPopEv rm c).dataOnly := dataOnly_pop16 (k := fun v d => wordWidth.store d (c.place rm) v .retire) fun _ _ => dataOnly_store wordWidth_dataOnly (k := .retire) fun _ => trivial
theorem dataOnly_undef8F1 (_rm : RM16) (c : Cpu) : (progUndef8F1 _rm c).dataOnly := trivial
theorem dataOnly_undef8F2 (_rm : RM16) (c : Cpu) : (progUndef8F2 _rm c).dataOnly := trivial
theorem dataOnly_undef8F3 (_rm : RM16) (c : Cpu) : (progUndef8F3 _rm c).dataOnly := trivial
theorem dataOnly_undef8F4 (_rm : RM16) (c : Cpu) : (progUndef8F4 _rm c).dataOnly := trivial
theorem dataOnly_undef8F5 (_rm : RM16) (c : Cpu) : (progUndef8F5 _rm c).dataOnly := trivial
theorem dataOnly_undef8F6 (_rm : RM16) (c : Cpu) : (progUndef8F6 _rm c).dataOnly := trivial
theorem dataOnly_undef8F7 (_rm : RM16) (c : Cpu) : (progUndef8F7 _rm c).dataOnly := trivial
theorem dataOnly_callAp (off : Word) (seg : Word) (c : Cpu) : (progCallAp off seg c).dataOnly := dataOnly_callFar seg off c
theorem dataOnly_movALOb (off : Word) (c : Cpu) : (progMovALOb off c).dataOnly := dataOnly_movFrom byteWidth_dataOnly .al (.mem (.direct off)) c
theorem dataOnly_movAXOv (off : Word) (c : Cpu) : (progMovAXOv off c).dataOnly := dataOnly_movFrom wordWidth_dataOnly .ax (.mem (.direct off)) c
theorem dataOnly_movObAL (off : Word) (c : Cpu) : (progMovObAL off c).dataOnly := dataOnly_movTo byteWidth_dataOnly (.mem (.direct off)) (c.r8 .al) c
theorem dataOnly_movOvAX (off : Word) (c : Cpu) : (progMovOvAX off c).dataOnly := dataOnly_movTo wordWidth_dataOnly (.mem (.direct off)) c.ax c
theorem dataOnly_testALIb (imm : Byte) (c : Cpu) : (progTestALIb imm c).dataOnly := trivial
theorem dataOnly_testAXIv (imm : Word) (c : Cpu) : (progTestAXIv imm c).dataOnly := trivial
theorem dataOnly_movReg8Ib (r : Reg8) (imm : Byte) (c : Cpu) : (progMovReg8Ib r imm c).dataOnly := trivial
theorem dataOnly_movReg16Iv (r : Reg16) (imm : Word) (c : Cpu) : (progMovReg16Iv r imm c).dataOnly := trivial
theorem dataOnly_retIwC0 (imm : Word) (c : Cpu) : (progRetIwC0 imm c).dataOnly := dataOnly_returnNear imm c
theorem dataOnly_retIw (imm : Word) (c : Cpu) : (progRetIw imm c).dataOnly := dataOnly_returnNear imm c
theorem dataOnly_les (reg : Reg16) (m : Mem) (c : Cpu) : (progLes reg m c).dataOnly := dataOnly_readPointer (k := fun o s => .retire ((c.set16 reg o).setSeg .es s)) fun _ _ => trivial
theorem dataOnly_undefLes (_reg : Reg16) (_rm : Reg16) (c : Cpu) : (progUndefLes _reg _rm c).dataOnly := trivial
theorem dataOnly_lds (reg : Reg16) (m : Mem) (c : Cpu) : (progLds reg m c).dataOnly := dataOnly_readPointer (k := fun o s => .retire ((c.set16 reg o).setSeg .ds s)) fun _ _ => trivial
theorem dataOnly_undefLds (_reg : Reg16) (_rm : Reg16) (c : Cpu) : (progUndefLds _reg _rm c).dataOnly := trivial
theorem dataOnly_movEbIb (rm : RM8) (imm : Byte) (c : Cpu) : (progMovEbIb rm imm c).dataOnly := dataOnly_movTo byteWidth_dataOnly rm imm c
theorem dataOnly_undefC61 (_rm : RM8) (_imm : Byte) (c : Cpu) : (progUndefC61 _rm _imm c).dataOnly := trivial
theorem dataOnly_undefC62 (_rm : RM8) (_imm : Byte) (c : Cpu) : (progUndefC62 _rm _imm c).dataOnly := trivial
theorem dataOnly_undefC63 (_rm : RM8) (_imm : Byte) (c : Cpu) : (progUndefC63 _rm _imm c).dataOnly := trivial
theorem dataOnly_undefC64 (_rm : RM8) (_imm : Byte) (c : Cpu) : (progUndefC64 _rm _imm c).dataOnly := trivial
theorem dataOnly_undefC65 (_rm : RM8) (_imm : Byte) (c : Cpu) : (progUndefC65 _rm _imm c).dataOnly := trivial
theorem dataOnly_undefC66 (_rm : RM8) (_imm : Byte) (c : Cpu) : (progUndefC66 _rm _imm c).dataOnly := trivial
theorem dataOnly_undefC67 (_rm : RM8) (_imm : Byte) (c : Cpu) : (progUndefC67 _rm _imm c).dataOnly := trivial
theorem dataOnly_movEvIv (rm : RM16) (imm : Word) (c : Cpu) : (progMovEvIv rm imm c).dataOnly := dataOnly_movTo wordWidth_dataOnly rm imm c
theorem dataOnly_undefC71 (_rm : RM16) (_imm : Word) (c : Cpu) : (progUndefC71 _rm _imm c).dataOnly := trivial
theorem dataOnly_undefC72 (_rm : RM16) (_imm : Word) (c : Cpu) : (progUndefC72 _rm _imm c).dataOnly := trivial
theorem dataOnly_undefC73 (_rm : RM16) (_imm : Word) (c : Cpu) : (progUndefC73 _rm _imm c).dataOnly := trivial
theorem dataOnly_undefC74 (_rm : RM16) (_imm : Word) (c : Cpu) : (progUndefC74 _rm _imm c).dataOnly := trivial
theorem dataOnly_undefC75 (_rm : RM16) (_imm : Word) (c : Cpu) : (progUndefC75 _rm _imm c).dataOnly := trivial
theorem dataOnly_undefC76 (_rm : RM16) (_imm : Word) (c : Cpu) : (progUndefC76 _rm _imm c).dataOnly := trivial
theorem dataOnly_undefC77 (_rm : RM16) (_imm : Word) (c : Cpu) : (progUndefC77 _rm _imm c).dataOnly := trivial
theorem dataOnly_retfIwC8 (imm : Word) (c : Cpu) : (progRetfIwC8 imm c).dataOnly := dataOnly_returnFar imm c
theorem dataOnly_retfIw (imm : Word) (c : Cpu) : (progRetfIw imm c).dataOnly := dataOnly_returnFar imm c
theorem dataOnly_intIb (imm : Byte) (c : Cpu) : (progIntIb imm c).dataOnly := dataOnly_enter imm c.ip c
theorem dataOnly_rolEb1 (rm : RM8) (c : Cpu) : (progRolEb1 rm c).dataOnly := dataOnly_shiftRm byteWidth_dataOnly .rol rm 1 c
theorem dataOnly_rorEb1 (rm : RM8) (c : Cpu) : (progRorEb1 rm c).dataOnly := dataOnly_shiftRm byteWidth_dataOnly .ror rm 1 c
theorem dataOnly_rclEb1 (rm : RM8) (c : Cpu) : (progRclEb1 rm c).dataOnly := dataOnly_shiftRm byteWidth_dataOnly .rcl rm 1 c
theorem dataOnly_rcrEb1 (rm : RM8) (c : Cpu) : (progRcrEb1 rm c).dataOnly := dataOnly_shiftRm byteWidth_dataOnly .rcr rm 1 c
theorem dataOnly_shlEb1 (rm : RM8) (c : Cpu) : (progShlEb1 rm c).dataOnly := dataOnly_shiftRm byteWidth_dataOnly .shl rm 1 c
theorem dataOnly_shrEb1 (rm : RM8) (c : Cpu) : (progShrEb1 rm c).dataOnly := dataOnly_shiftRm byteWidth_dataOnly .shr rm 1 c
theorem dataOnly_undefD06 (_rm : RM8) (c : Cpu) : (progUndefD06 _rm c).dataOnly := trivial
theorem dataOnly_sarEb1 (rm : RM8) (c : Cpu) : (progSarEb1 rm c).dataOnly := dataOnly_shiftRm byteWidth_dataOnly .sar rm 1 c
theorem dataOnly_rolEv1 (rm : RM16) (c : Cpu) : (progRolEv1 rm c).dataOnly := dataOnly_shiftRm wordWidth_dataOnly .rol rm 1 c
theorem dataOnly_rorEv1 (rm : RM16) (c : Cpu) : (progRorEv1 rm c).dataOnly := dataOnly_shiftRm wordWidth_dataOnly .ror rm 1 c
theorem dataOnly_rclEv1 (rm : RM16) (c : Cpu) : (progRclEv1 rm c).dataOnly := dataOnly_shiftRm wordWidth_dataOnly .rcl rm 1 c
theorem dataOnly_rcrEv1 (rm : RM16) (c : Cpu) : (progRcrEv1 rm c).dataOnly := dataOnly_shiftRm wordWidth_dataOnly .rcr rm 1 c
theorem dataOnly_shlEv1 (rm : RM16) (c : Cpu) : (progShlEv1 rm c).dataOnly := dataOnly_shiftRm wordWidth_dataOnly .shl rm 1 c
theorem dataOnly_shrEv1 (rm : RM16) (c : Cpu) : (progShrEv1 rm c).dataOnly := dataOnly_shiftRm wordWidth_dataOnly .shr rm 1 c
theorem dataOnly_undefD16 (_rm : RM16) (c : Cpu) : (progUndefD16 _rm c).dataOnly := trivial
theorem dataOnly_sarEv1 (rm : RM16) (c : Cpu) : (progSarEv1 rm c).dataOnly := dataOnly_shiftRm wordWidth_dataOnly .sar rm 1 c
theorem dataOnly_rolEbCL (rm : RM8) (c : Cpu) : (progRolEbCL rm c).dataOnly := dataOnly_shiftRmCl byteWidth_dataOnly .rol rm c
theorem dataOnly_rorEbCL (rm : RM8) (c : Cpu) : (progRorEbCL rm c).dataOnly := dataOnly_shiftRmCl byteWidth_dataOnly .ror rm c
theorem dataOnly_rclEbCL (rm : RM8) (c : Cpu) : (progRclEbCL rm c).dataOnly := dataOnly_shiftRmCl byteWidth_dataOnly .rcl rm c
theorem dataOnly_rcrEbCL (rm : RM8) (c : Cpu) : (progRcrEbCL rm c).dataOnly := dataOnly_shiftRmCl byteWidth_dataOnly .rcr rm c
theorem dataOnly_shlEbCL (rm : RM8) (c : Cpu) : (progShlEbCL rm c).dataOnly := dataOnly_shiftRmCl byteWidth_dataOnly .shl rm c
theorem dataOnly_shrEbCL (rm : RM8) (c : Cpu) : (progShrEbCL rm c).dataOnly := dataOnly_shiftRmCl byteWidth_dataOnly .shr rm c
theorem dataOnly_undefD26 (_rm : RM8) (c : Cpu) : (progUndefD26 _rm c).dataOnly := trivial
theorem dataOnly_sarEbCL (rm : RM8) (c : Cpu) : (progSarEbCL rm c).dataOnly := dataOnly_shiftRmCl byteWidth_dataOnly .sar rm c
theorem dataOnly_rolEvCL (rm : RM16) (c : Cpu) : (progRolEvCL rm c).dataOnly := dataOnly_shiftRmCl wordWidth_dataOnly .rol rm c
theorem dataOnly_rorEvCL (rm : RM16) (c : Cpu) : (progRorEvCL rm c).dataOnly := dataOnly_shiftRmCl wordWidth_dataOnly .ror rm c
theorem dataOnly_rclEvCL (rm : RM16) (c : Cpu) : (progRclEvCL rm c).dataOnly := dataOnly_shiftRmCl wordWidth_dataOnly .rcl rm c
theorem dataOnly_rcrEvCL (rm : RM16) (c : Cpu) : (progRcrEvCL rm c).dataOnly := dataOnly_shiftRmCl wordWidth_dataOnly .rcr rm c
theorem dataOnly_shlEvCL (rm : RM16) (c : Cpu) : (progShlEvCL rm c).dataOnly := dataOnly_shiftRmCl wordWidth_dataOnly .shl rm c
theorem dataOnly_shrEvCL (rm : RM16) (c : Cpu) : (progShrEvCL rm c).dataOnly := dataOnly_shiftRmCl wordWidth_dataOnly .shr rm c
theorem dataOnly_undefD36 (_rm : RM16) (c : Cpu) : (progUndefD36 _rm c).dataOnly := trivial
theorem dataOnly_sarEvCL (rm : RM16) (c : Cpu) : (progSarEvCL rm c).dataOnly := dataOnly_shiftRmCl wordWidth_dataOnly .sar rm c
theorem dataOnly_aad (imm : Byte) (c : Cpu) : (progAad imm c).dataOnly := trivial
theorem dataOnly_loopne (disp : Byte) (c : Cpu) : (progLoopne disp c).dataOnly := dataOnly_jumpIf _ disp _
theorem dataOnly_loope (disp : Byte) (c : Cpu) : (progLoope disp c).dataOnly := dataOnly_jumpIf _ disp _
theorem dataOnly_loop (disp : Byte) (c : Cpu) : (progLoop disp c).dataOnly := dataOnly_jumpIf _ disp _
theorem dataOnly_jcxz (disp : Byte) (c : Cpu) : (progJcxz disp c).dataOnly := dataOnly_jumpIf (decide (c.cx = 0)) disp c
theorem dataOnly_inALIb (imm : Byte) (c : Cpu) : (progInALIb imm c).dataOnly := dataOnly_input byteWidth_dataOnly (zext imm) c
theorem dataOnly_inAXIb (imm : Byte) (c : Cpu) : (progInAXIb imm c).dataOnly := dataOnly_input wordWidth_dataOnly (zext imm) c
theorem dataOnly_outIbAL (imm : Byte) (c : Cpu) : (progOutIbAL imm c).dataOnly := dataOnly_output byteWidth_dataOnly (zext imm) c
theorem dataOnly_outIbAX (imm : Byte) (c : Cpu) : (progOutIbAX imm c).dataOnly := dataOnly_output wordWidth_dataOnly (zext imm) c
theorem dataOnly_callJv (disp : Word) (c : Cpu) : (progCallJv disp c).dataOnly := dataOnly_push16 (k := (fun d => jumpTo (c.ip + disp) d)) fun _ => trivial
theorem dataOnly_jmpJv (disp : Word) (c : Cpu) : (progJmpJv disp c).dataOnly := trivial
theorem dataOnly_jmpAp (off : Word) (seg : Word) (c : Cpu) : (progJmpAp off seg c).dataOnly := trivial
theorem dataOnly_jmpJb (disp : Byte) (c : Cpu) : (progJmpJb disp c).dataOnly := trivial
theorem dataOnly_testEbIb (rm : RM8) (imm : Byte) (c : Cpu) : (progTestEbIb rm imm c).dataOnly := dataOnly_testRmImm byteWidth_dataOnly rm imm c
theorem dataOnly_testEbIb1 (rm : RM8) (imm : Byte) (c : Cpu) : (progTestEbIb1 rm imm c).dataOnly := dataOnly_testRmImm byteWidth_dataOnly rm imm c
theorem dataOnly_notEb (rm : RM8) (c : Cpu) : (progNotEb rm c).dataOnly := dataOnly_notRm byteWidth_dataOnly rm c
theorem dataOnly_negEb (rm : RM8) (c : Cpu) : (progNegEb rm c).dataOnly := dataOnly_negRm byteWidth_dataOnly rm c
theorem dataOnly_mulEb (rm : RM8) (c : Cpu) : (progMulEb rm c).dataOnly := dataOnly_load byteWidth_dataOnly (k := fun b => .retire (c.mulByte b)) fun _ => trivial
theorem dataOnly_imulEb (rm : RM8) (c : Cpu) : (progImulEb rm c).dataOnly := dataOnly_load byteWidth_dataOnly (k := fun b => .retire (c.imulByte b)) fun _ => trivial
theorem dataOnly_divEb (rm : RM8) (c : Cpu) : (progDivEb rm c).dataOnly := dataOnly_load byteWidth_dataOnly (k := fun b => finishByteDivide (divide c.ax b) c) fun _ => dataOnly_finishByteDivide _ c
theorem dataOnly_idivEb (rm : RM8) (c : Cpu) : (progIdivEb rm c).dataOnly := dataOnly_load byteWidth_dataOnly (k := fun b => finishByteDivide (divideSigned c.ax b) c) fun _ => dataOnly_finishByteDivide _ c
theorem dataOnly_testEvIv (rm : RM16) (imm : Word) (c : Cpu) : (progTestEvIv rm imm c).dataOnly := dataOnly_testRmImm wordWidth_dataOnly rm imm c
theorem dataOnly_testEvIv1 (rm : RM16) (imm : Word) (c : Cpu) : (progTestEvIv1 rm imm c).dataOnly := dataOnly_testRmImm wordWidth_dataOnly rm imm c
theorem dataOnly_notEv (rm : RM16) (c : Cpu) : (progNotEv rm c).dataOnly := dataOnly_notRm wordWidth_dataOnly rm c
theorem dataOnly_negEv (rm : RM16) (c : Cpu) : (progNegEv rm c).dataOnly := dataOnly_negRm wordWidth_dataOnly rm c
theorem dataOnly_mulEv (rm : RM16) (c : Cpu) : (progMulEv rm c).dataOnly := dataOnly_load wordWidth_dataOnly (k := fun b => .retire (c.mulWord b)) fun _ => trivial
theorem dataOnly_imulEv (rm : RM16) (c : Cpu) : (progImulEv rm c).dataOnly := dataOnly_load wordWidth_dataOnly (k := fun b => .retire (c.imulWord b)) fun _ => trivial
theorem dataOnly_divEv (rm : RM16) (c : Cpu) : (progDivEv rm c).dataOnly := dataOnly_load wordWidth_dataOnly (k := fun b => finishWordDivide (divide c.dxax b) c) fun _ => dataOnly_finishWordDivide _ c
theorem dataOnly_idivEv (rm : RM16) (c : Cpu) : (progIdivEv rm c).dataOnly := dataOnly_load wordWidth_dataOnly (k := fun b => finishWordDivide (divideSigned c.dxax b) c) fun _ => dataOnly_finishWordDivide _ c
theorem dataOnly_incEb (rm : RM8) (c : Cpu) : (progIncEb rm c).dataOnly := dataOnly_incRm byteWidth_dataOnly rm c
theorem dataOnly_decEb (rm : RM8) (c : Cpu) : (progDecEb rm c).dataOnly := dataOnly_decRm byteWidth_dataOnly rm c
theorem dataOnly_undefFE2 (_rm : RM8) (c : Cpu) : (progUndefFE2 _rm c).dataOnly := trivial
theorem dataOnly_undefFE3 (_rm : RM8) (c : Cpu) : (progUndefFE3 _rm c).dataOnly := trivial
theorem dataOnly_undefFE4 (_rm : RM8) (c : Cpu) : (progUndefFE4 _rm c).dataOnly := trivial
theorem dataOnly_undefFE5 (_rm : RM8) (c : Cpu) : (progUndefFE5 _rm c).dataOnly := trivial
theorem dataOnly_undefFE6 (_rm : RM8) (c : Cpu) : (progUndefFE6 _rm c).dataOnly := trivial
theorem dataOnly_undefFE7 (_rm : RM8) (c : Cpu) : (progUndefFE7 _rm c).dataOnly := trivial
theorem dataOnly_incEv (rm : RM16) (c : Cpu) : (progIncEv rm c).dataOnly := dataOnly_incRm wordWidth_dataOnly rm c
theorem dataOnly_decEv (rm : RM16) (c : Cpu) : (progDecEv rm c).dataOnly := dataOnly_decRm wordWidth_dataOnly rm c
theorem dataOnly_callEv (rm : RM16) (c : Cpu) : (progCallEv rm c).dataOnly := dataOnly_load wordWidth_dataOnly (k := fun t => push16 c.ip c fun d => jumpTo t d) fun _ => dataOnly_push16 (k := fun d => jumpTo _ d) fun _ => trivial
theorem dataOnly_callMp (m : Mem) (c : Cpu) : (progCallMp m c).dataOnly := dataOnly_readPointer (k := fun o s => callFar s o c) fun _ _ => dataOnly_callFar _ _ c
theorem dataOnly_undefFF3 (_r : Reg16) (c : Cpu) : (progUndefFF3 _r c).dataOnly := trivial
theorem dataOnly_jmpEv (rm : RM16) (c : Cpu) : (progJmpEv rm c).dataOnly := dataOnly_load wordWidth_dataOnly (k := fun t => jumpTo t c) fun _ => trivial
theorem dataOnly_jmpMp (m : Mem) (c : Cpu) : (progJmpMp m c).dataOnly := dataOnly_readPointer (k := fun o s => jumpFar s o c) fun _ _ => trivial
theorem dataOnly_undefFF5 (_r : Reg16) (c : Cpu) : (progUndefFF5 _r c).dataOnly := trivial
theorem dataOnly_undefFF7 (_rm : RM16) (c : Cpu) : (progUndefFF7 _rm c).dataOnly := trivial
theorem dataOnly_pushES (c : Cpu) : (progPushES c).dataOnly := dataOnly_push16 (k := .retire) fun _ => trivial
theorem dataOnly_popES (c : Cpu) : (progPopES c).dataOnly := dataOnly_popSeg .es c
theorem dataOnly_segES (c : Cpu) : (progSegES c).dataOnly := trivial
theorem dataOnly_pushCS (c : Cpu) : (progPushCS c).dataOnly := dataOnly_push16 (k := .retire) fun _ => trivial
theorem dataOnly_popCS (c : Cpu) : (progPopCS c).dataOnly := dataOnly_popSeg .cs c
theorem dataOnly_segCS (c : Cpu) : (progSegCS c).dataOnly := trivial
theorem dataOnly_pushSS (c : Cpu) : (progPushSS c).dataOnly := dataOnly_push16 (k := .retire) fun _ => trivial
theorem dataOnly_popSS (c : Cpu) : (progPopSS c).dataOnly := dataOnly_popSeg .ss c
theorem dataOnly_segSS (c : Cpu) : (progSegSS c).dataOnly := trivial
theorem dataOnly_pushDS (c : Cpu) : (progPushDS c).dataOnly := dataOnly_push16 (k := .retire) fun _ => trivial
theorem dataOnly_popDS (c : Cpu) : (progPopDS c).dataOnly := dataOnly_popSeg .ds c
theorem dataOnly_segDS (c : Cpu) : (progSegDS c).dataOnly := trivial
theorem dataOnly_daa (c : Cpu) : (progDaa c).dataOnly := trivial
theorem dataOnly_das (c : Cpu) : (progDas c).dataOnly := trivial
theorem dataOnly_aaa (c : Cpu) : (progAaa c).dataOnly := trivial
theorem dataOnly_aas (c : Cpu) : (progAas c).dataOnly := trivial
theorem dataOnly_nop (c : Cpu) : (progNop c).dataOnly := trivial
theorem dataOnly_xchgAXCX (c : Cpu) : (progXchgAXCX c).dataOnly := trivial
theorem dataOnly_xchgAXDX (c : Cpu) : (progXchgAXDX c).dataOnly := trivial
theorem dataOnly_xchgAXBX (c : Cpu) : (progXchgAXBX c).dataOnly := trivial
theorem dataOnly_xchgAXSP (c : Cpu) : (progXchgAXSP c).dataOnly := trivial
theorem dataOnly_xchgAXBP (c : Cpu) : (progXchgAXBP c).dataOnly := trivial
theorem dataOnly_xchgAXSI (c : Cpu) : (progXchgAXSI c).dataOnly := trivial
theorem dataOnly_xchgAXDI (c : Cpu) : (progXchgAXDI c).dataOnly := trivial
theorem dataOnly_cbw (c : Cpu) : (progCbw c).dataOnly := trivial
theorem dataOnly_cwd (c : Cpu) : (progCwd c).dataOnly := trivial
theorem dataOnly_pushf (c : Cpu) : (progPushf c).dataOnly := dataOnly_push16 (k := .retire) fun _ => trivial
theorem dataOnly_popf (c : Cpu) : (progPopf c).dataOnly := dataOnly_pop16 (k := fun v d => .retire { d with flags := Flags.ofImage v }) fun _ _ => trivial
theorem dataOnly_sahf (c : Cpu) : (progSahf c).dataOnly := trivial
theorem dataOnly_lahf (c : Cpu) : (progLahf c).dataOnly := trivial
theorem dataOnly_movsb (c : Cpu) : (progMovsb c).dataOnly := dataOnly_stringInstr byteWidth_dataOnly .movs 0xA4 c
theorem dataOnly_movsw (c : Cpu) : (progMovsw c).dataOnly := dataOnly_stringInstr wordWidth_dataOnly .movs 0xA5 c
theorem dataOnly_cmpsb (c : Cpu) : (progCmpsb c).dataOnly := dataOnly_stringInstr byteWidth_dataOnly .cmps 0xA6 c
theorem dataOnly_cmpsw (c : Cpu) : (progCmpsw c).dataOnly := dataOnly_stringInstr wordWidth_dataOnly .cmps 0xA7 c
theorem dataOnly_stosb (c : Cpu) : (progStosb c).dataOnly := dataOnly_stringInstr byteWidth_dataOnly .stos 0xAA c
theorem dataOnly_stosw (c : Cpu) : (progStosw c).dataOnly := dataOnly_stringInstr wordWidth_dataOnly .stos 0xAB c
theorem dataOnly_lodsb (c : Cpu) : (progLodsb c).dataOnly := dataOnly_stringInstr byteWidth_dataOnly .lods 0xAC c
theorem dataOnly_lodsw (c : Cpu) : (progLodsw c).dataOnly := dataOnly_stringInstr wordWidth_dataOnly .lods 0xAD c
theorem dataOnly_scasb (c : Cpu) : (progScasb c).dataOnly := dataOnly_stringInstr byteWidth_dataOnly .scas 0xAE c
theorem dataOnly_scasw (c : Cpu) : (progScasw c).dataOnly := dataOnly_stringInstr wordWidth_dataOnly .scas 0xAF c
theorem dataOnly_retC1 (c : Cpu) : (progRetC1 c).dataOnly := dataOnly_returnNear 0 c
theorem dataOnly_ret (c : Cpu) : (progRet c).dataOnly := dataOnly_returnNear 0 c
theorem dataOnly_retfC9 (c : Cpu) : (progRetfC9 c).dataOnly := dataOnly_returnFar 0 c
theorem dataOnly_retf (c : Cpu) : (progRetf c).dataOnly := dataOnly_returnFar 0 c
theorem dataOnly_int3 (c : Cpu) : (progInt3 c).dataOnly := dataOnly_enter 3 c.ip c
theorem dataOnly_iret (c : Cpu) : (progIret c).dataOnly := dataOnly_leave c
theorem dataOnly_salc (c : Cpu) : (progSalc c).dataOnly := trivial
theorem dataOnly_xlat (c : Cpu) : (progXlat c).dataOnly := ⟨rfl, fun _ => trivial⟩
theorem dataOnly_inALDX (c : Cpu) : (progInALDX c).dataOnly := dataOnly_input byteWidth_dataOnly c.dx c
theorem dataOnly_inAXDX (c : Cpu) : (progInAXDX c).dataOnly := dataOnly_input wordWidth_dataOnly c.dx c
theorem dataOnly_outDXAL (c : Cpu) : (progOutDXAL c).dataOnly := dataOnly_output byteWidth_dataOnly c.dx c
theorem dataOnly_outDXAX (c : Cpu) : (progOutDXAX c).dataOnly := dataOnly_output wordWidth_dataOnly c.dx c
theorem dataOnly_lock (c : Cpu) : (progLock c).dataOnly := trivial
theorem dataOnly_lockF1 (c : Cpu) : (progLockF1 c).dataOnly := trivial
theorem dataOnly_repne (c : Cpu) : (progRepne c).dataOnly := trivial
theorem dataOnly_rep (c : Cpu) : (progRep c).dataOnly := trivial
theorem dataOnly_hlt (c : Cpu) : (progHlt c).dataOnly := trivial
theorem dataOnly_cmc (c : Cpu) : (progCmc c).dataOnly := trivial
theorem dataOnly_clc (c : Cpu) : (progClc c).dataOnly := trivial
theorem dataOnly_stc (c : Cpu) : (progStc c).dataOnly := trivial
theorem dataOnly_cli (c : Cpu) : (progCli c).dataOnly := trivial
theorem dataOnly_sti (c : Cpu) : (progSti c).dataOnly := trivial
theorem dataOnly_cld (c : Cpu) : (progCld c).dataOnly := trivial
theorem dataOnly_std (c : Cpu) : (progStd c).dataOnly := trivial

/-- No access of an instruction is a code fetch. -/
theorem dataOnly_progOf (i : Instr) (c : Cpu) : (progOf i c).dataOnly := by
  cases i with
  | addEbGb rm reg => exact dataOnly_addEbGb rm reg c
  | addEvGv rm reg => exact dataOnly_addEvGv rm reg c
  | addGbEb reg rm => exact dataOnly_addGbEb reg rm c
  | addGvEv reg rm => exact dataOnly_addGvEv reg rm c
  | addALIb imm => exact dataOnly_addALIb imm c
  | addAXIv imm => exact dataOnly_addAXIv imm c
  | orEbGb rm reg => exact dataOnly_orEbGb rm reg c
  | orEvGv rm reg => exact dataOnly_orEvGv rm reg c
  | orGbEb reg rm => exact dataOnly_orGbEb reg rm c
  | orGvEv reg rm => exact dataOnly_orGvEv reg rm c
  | orALIb imm => exact dataOnly_orALIb imm c
  | orAXIv imm => exact dataOnly_orAXIv imm c
  | adcEbGb rm reg => exact dataOnly_adcEbGb rm reg c
  | adcEvGv rm reg => exact dataOnly_adcEvGv rm reg c
  | adcGbEb reg rm => exact dataOnly_adcGbEb reg rm c
  | adcGvEv reg rm => exact dataOnly_adcGvEv reg rm c
  | adcALIb imm => exact dataOnly_adcALIb imm c
  | adcAXIv imm => exact dataOnly_adcAXIv imm c
  | sbbEbGb rm reg => exact dataOnly_sbbEbGb rm reg c
  | sbbEvGv rm reg => exact dataOnly_sbbEvGv rm reg c
  | sbbGbEb reg rm => exact dataOnly_sbbGbEb reg rm c
  | sbbGvEv reg rm => exact dataOnly_sbbGvEv reg rm c
  | sbbALIb imm => exact dataOnly_sbbALIb imm c
  | sbbAXIv imm => exact dataOnly_sbbAXIv imm c
  | andEbGb rm reg => exact dataOnly_andEbGb rm reg c
  | andEvGv rm reg => exact dataOnly_andEvGv rm reg c
  | andGbEb reg rm => exact dataOnly_andGbEb reg rm c
  | andGvEv reg rm => exact dataOnly_andGvEv reg rm c
  | andALIb imm => exact dataOnly_andALIb imm c
  | andAXIv imm => exact dataOnly_andAXIv imm c
  | subEbGb rm reg => exact dataOnly_subEbGb rm reg c
  | subEvGv rm reg => exact dataOnly_subEvGv rm reg c
  | subGbEb reg rm => exact dataOnly_subGbEb reg rm c
  | subGvEv reg rm => exact dataOnly_subGvEv reg rm c
  | subALIb imm => exact dataOnly_subALIb imm c
  | subAXIv imm => exact dataOnly_subAXIv imm c
  | xorEbGb rm reg => exact dataOnly_xorEbGb rm reg c
  | xorEvGv rm reg => exact dataOnly_xorEvGv rm reg c
  | xorGbEb reg rm => exact dataOnly_xorGbEb reg rm c
  | xorGvEv reg rm => exact dataOnly_xorGvEv reg rm c
  | xorALIb imm => exact dataOnly_xorALIb imm c
  | xorAXIv imm => exact dataOnly_xorAXIv imm c
  | cmpEbGb rm reg => exact dataOnly_cmpEbGb rm reg c
  | cmpEvGv rm reg => exact dataOnly_cmpEvGv rm reg c
  | cmpGbEb reg rm => exact dataOnly_cmpGbEb reg rm c
  | cmpGvEv reg rm => exact dataOnly_cmpGvEv reg rm c
  | cmpALIb imm => exact dataOnly_cmpALIb imm c
  | cmpAXIv imm => exact dataOnly_cmpAXIv imm c
  | incReg16 r => exact dataOnly_incReg16 r c
  | decReg16 r => exact dataOnly_decReg16 r c
  | pushReg16 r => exact dataOnly_pushReg16 r c
  | popReg16 r => exact dataOnly_popReg16 r c
  | jcc60 cc disp => exact dataOnly_jcc60 cc disp c
  | jcc cc disp => exact dataOnly_jcc cc disp c
  | addEbIb rm imm => exact dataOnly_addEbIb rm imm c
  | orEbIb rm imm => exact dataOnly_orEbIb rm imm c
  | adcEbIb rm imm => exact dataOnly_adcEbIb rm imm c
  | sbbEbIb rm imm => exact dataOnly_sbbEbIb rm imm c
  | andEbIb rm imm => exact dataOnly_andEbIb rm imm c
  | subEbIb rm imm => exact dataOnly_subEbIb rm imm c
  | xorEbIb rm imm => exact dataOnly_xorEbIb rm imm c
  | cmpEbIb rm imm => exact dataOnly_cmpEbIb rm imm c
  | addEvIv rm imm => exact dataOnly_addEvIv rm imm c
  | orEvIv rm imm => exact dataOnly_orEvIv rm imm c
  | adcEvIv rm imm => exact dataOnly_adcEvIv rm imm c
  | sbbEvIv rm imm => exact dataOnly_sbbEvIv rm imm c
  | andEvIv rm imm => exact dataOnly_andEvIv rm imm c
  | subEvIv rm imm => exact dataOnly_subEvIv rm imm c
  | xorEvIv rm imm => exact dataOnly_xorEvIv rm imm c
  | cmpEvIv rm imm => exact dataOnly_cmpEvIv rm imm c
  | addEbIb82 rm imm => exact dataOnly_addEbIb82 rm imm c
  | orEbIb82 rm imm => exact dataOnly_orEbIb82 rm imm c
  | adcEbIb82 rm imm => exact dataOnly_adcEbIb82 rm imm c
  | sbbEbIb82 rm imm => exact dataOnly_sbbEbIb82 rm imm c
  | andEbIb82 rm imm => exact dataOnly_andEbIb82 rm imm c
  | subEbIb82 rm imm => exact dataOnly_subEbIb82 rm imm c
  | xorEbIb82 rm imm => exact dataOnly_xorEbIb82 rm imm c
  | cmpEbIb82 rm imm => exact dataOnly_cmpEbIb82 rm imm c
  | addEvIbs rm imm => exact dataOnly_addEvIbs rm imm c
  | orEvIbs rm imm => exact dataOnly_orEvIbs rm imm c
  | adcEvIbs rm imm => exact dataOnly_adcEvIbs rm imm c
  | sbbEvIbs rm imm => exact dataOnly_sbbEvIbs rm imm c
  | andEvIbs rm imm => exact dataOnly_andEvIbs rm imm c
  | subEvIbs rm imm => exact dataOnly_subEvIbs rm imm c
  | xorEvIbs rm imm => exact dataOnly_xorEvIbs rm imm c
  | cmpEvIbs rm imm => exact dataOnly_cmpEvIbs rm imm c
  | testEbGb rm reg => exact dataOnly_testEbGb rm reg c
  | testEvGv rm reg => exact dataOnly_testEvGv rm reg c
  | xchgEbGb rm reg => exact dataOnly_xchgEbGb rm reg c
  | xchgEvGv rm reg => exact dataOnly_xchgEvGv rm reg c
  | movEbGb rm reg => exact dataOnly_movEbGb rm reg c
  | movEvGv rm reg => exact dataOnly_movEvGv rm reg c
  | movGbEb reg rm => exact dataOnly_movGbEb reg rm c
  | movGvEv reg rm => exact dataOnly_movGvEv reg rm c
  | movEwSw rm sr => exact dataOnly_movEwSw rm sr c
  | movEwSwHi rm sr => exact dataOnly_movEwSwHi rm sr c
  | lea reg m => exact dataOnly_lea reg m c
  | undefLea _reg _rm => exact dataOnly_undefLea _reg _rm c
  | movSwEw sr rm => exact dataOnly_movSwEw sr rm c
  | movSwEwHi sr rm => exact dataOnly_movSwEwHi sr rm c
  | popEv rm => exact dataOnly_popEv rm c
  | undef8F1 _rm => exact dataOnly_undef8F1 _rm c
  | undef8F2 _rm => exact dataOnly_undef8F2 _rm c
  | undef8F3 _rm => exact dataOnly_undef8F3 _rm c
  | undef8F4 _rm => exact dataOnly_undef8F4 _rm c
  | undef8F5 _rm => exact dataOnly_undef8F5 _rm c
  | undef8F6 _rm => exact dataOnly_undef8F6 _rm c
  | undef8F7 _rm => exact dataOnly_undef8F7 _rm c
  | callAp off seg => exact dataOnly_callAp off seg c
  | movALOb off => exact dataOnly_movALOb off c
  | movAXOv off => exact dataOnly_movAXOv off c
  | movObAL off => exact dataOnly_movObAL off c
  | movOvAX off => exact dataOnly_movOvAX off c
  | testALIb imm => exact dataOnly_testALIb imm c
  | testAXIv imm => exact dataOnly_testAXIv imm c
  | movReg8Ib r imm => exact dataOnly_movReg8Ib r imm c
  | movReg16Iv r imm => exact dataOnly_movReg16Iv r imm c
  | retIwC0 imm => exact dataOnly_retIwC0 imm c
  | retIw imm => exact dataOnly_retIw imm c
  | les reg m => exact dataOnly_les reg m c
  | undefLes _reg _rm => exact dataOnly_undefLes _reg _rm c
  | lds reg m => exact dataOnly_lds reg m c
  | undefLds _reg _rm => exact dataOnly_undefLds _reg _rm c
  | movEbIb rm imm => exact dataOnly_movEbIb rm imm c
  | undefC61 _rm _imm => exact dataOnly_undefC61 _rm _imm c
  | undefC62 _rm _imm => exact dataOnly_undefC62 _rm _imm c
  | undefC63 _rm _imm => exact dataOnly_undefC63 _rm _imm c
  | undefC64 _rm _imm => exact dataOnly_undefC64 _rm _imm c
  | undefC65 _rm _imm => exact dataOnly_undefC65 _rm _imm c
  | undefC66 _rm _imm => exact dataOnly_undefC66 _rm _imm c
  | undefC67 _rm _imm => exact dataOnly_undefC67 _rm _imm c
  | movEvIv rm imm => exact dataOnly_movEvIv rm imm c
  | undefC71 _rm _imm => exact dataOnly_undefC71 _rm _imm c
  | undefC72 _rm _imm => exact dataOnly_undefC72 _rm _imm c
  | undefC73 _rm _imm => exact dataOnly_undefC73 _rm _imm c
  | undefC74 _rm _imm => exact dataOnly_undefC74 _rm _imm c
  | undefC75 _rm _imm => exact dataOnly_undefC75 _rm _imm c
  | undefC76 _rm _imm => exact dataOnly_undefC76 _rm _imm c
  | undefC77 _rm _imm => exact dataOnly_undefC77 _rm _imm c
  | retfIwC8 imm => exact dataOnly_retfIwC8 imm c
  | retfIw imm => exact dataOnly_retfIw imm c
  | intIb imm => exact dataOnly_intIb imm c
  | rolEb1 rm => exact dataOnly_rolEb1 rm c
  | rorEb1 rm => exact dataOnly_rorEb1 rm c
  | rclEb1 rm => exact dataOnly_rclEb1 rm c
  | rcrEb1 rm => exact dataOnly_rcrEb1 rm c
  | shlEb1 rm => exact dataOnly_shlEb1 rm c
  | shrEb1 rm => exact dataOnly_shrEb1 rm c
  | undefD06 _rm => exact dataOnly_undefD06 _rm c
  | sarEb1 rm => exact dataOnly_sarEb1 rm c
  | rolEv1 rm => exact dataOnly_rolEv1 rm c
  | rorEv1 rm => exact dataOnly_rorEv1 rm c
  | rclEv1 rm => exact dataOnly_rclEv1 rm c
  | rcrEv1 rm => exact dataOnly_rcrEv1 rm c
  | shlEv1 rm => exact dataOnly_shlEv1 rm c
  | shrEv1 rm => exact dataOnly_shrEv1 rm c
  | undefD16 _rm => exact dataOnly_undefD16 _rm c
  | sarEv1 rm => exact dataOnly_sarEv1 rm c
  | rolEbCL rm => exact dataOnly_rolEbCL rm c
  | rorEbCL rm => exact dataOnly_rorEbCL rm c
  | rclEbCL rm => exact dataOnly_rclEbCL rm c
  | rcrEbCL rm => exact dataOnly_rcrEbCL rm c
  | shlEbCL rm => exact dataOnly_shlEbCL rm c
  | shrEbCL rm => exact dataOnly_shrEbCL rm c
  | undefD26 _rm => exact dataOnly_undefD26 _rm c
  | sarEbCL rm => exact dataOnly_sarEbCL rm c
  | rolEvCL rm => exact dataOnly_rolEvCL rm c
  | rorEvCL rm => exact dataOnly_rorEvCL rm c
  | rclEvCL rm => exact dataOnly_rclEvCL rm c
  | rcrEvCL rm => exact dataOnly_rcrEvCL rm c
  | shlEvCL rm => exact dataOnly_shlEvCL rm c
  | shrEvCL rm => exact dataOnly_shrEvCL rm c
  | undefD36 _rm => exact dataOnly_undefD36 _rm c
  | sarEvCL rm => exact dataOnly_sarEvCL rm c
  | aam imm => exact dataOnly_aam imm c
  | aad imm => exact dataOnly_aad imm c
  | esc _op _reg rm => exact dataOnly_esc _op _reg rm c
  | loopne disp => exact dataOnly_loopne disp c
  | loope disp => exact dataOnly_loope disp c
  | loop disp => exact dataOnly_loop disp c
  | jcxz disp => exact dataOnly_jcxz disp c
  | inALIb imm => exact dataOnly_inALIb imm c
  | inAXIb imm => exact dataOnly_inAXIb imm c
  | outIbAL imm => exact dataOnly_outIbAL imm c
  | outIbAX imm => exact dataOnly_outIbAX imm c
  | callJv disp => exact dataOnly_callJv disp c
  | jmpJv disp => exact dataOnly_jmpJv disp c
  | jmpAp off seg => exact dataOnly_jmpAp off seg c
  | jmpJb disp => exact dataOnly_jmpJb disp c
  | testEbIb rm imm => exact dataOnly_testEbIb rm imm c
  | testEbIb1 rm imm => exact dataOnly_testEbIb1 rm imm c
  | notEb rm => exact dataOnly_notEb rm c
  | negEb rm => exact dataOnly_negEb rm c
  | mulEb rm => exact dataOnly_mulEb rm c
  | imulEb rm => exact dataOnly_imulEb rm c
  | divEb rm => exact dataOnly_divEb rm c
  | idivEb rm => exact dataOnly_idivEb rm c
  | testEvIv rm imm => exact dataOnly_testEvIv rm imm c
  | testEvIv1 rm imm => exact dataOnly_testEvIv1 rm imm c
  | notEv rm => exact dataOnly_notEv rm c
  | negEv rm => exact dataOnly_negEv rm c
  | mulEv rm => exact dataOnly_mulEv rm c
  | imulEv rm => exact dataOnly_imulEv rm c
  | divEv rm => exact dataOnly_divEv rm c
  | idivEv rm => exact dataOnly_idivEv rm c
  | incEb rm => exact dataOnly_incEb rm c
  | decEb rm => exact dataOnly_decEb rm c
  | undefFE2 _rm => exact dataOnly_undefFE2 _rm c
  | undefFE3 _rm => exact dataOnly_undefFE3 _rm c
  | undefFE4 _rm => exact dataOnly_undefFE4 _rm c
  | undefFE5 _rm => exact dataOnly_undefFE5 _rm c
  | undefFE6 _rm => exact dataOnly_undefFE6 _rm c
  | undefFE7 _rm => exact dataOnly_undefFE7 _rm c
  | incEv rm => exact dataOnly_incEv rm c
  | decEv rm => exact dataOnly_decEv rm c
  | callEv rm => exact dataOnly_callEv rm c
  | callMp m => exact dataOnly_callMp m c
  | undefFF3 _r => exact dataOnly_undefFF3 _r c
  | jmpEv rm => exact dataOnly_jmpEv rm c
  | jmpMp m => exact dataOnly_jmpMp m c
  | undefFF5 _r => exact dataOnly_undefFF5 _r c
  | pushEv rm => exact dataOnly_pushEv rm c
  | undefFF7 _rm => exact dataOnly_undefFF7 _rm c
  | pushES => exact dataOnly_pushES c
  | popES => exact dataOnly_popES c
  | segES => exact dataOnly_segES c
  | pushCS => exact dataOnly_pushCS c
  | popCS => exact dataOnly_popCS c
  | segCS => exact dataOnly_segCS c
  | pushSS => exact dataOnly_pushSS c
  | popSS => exact dataOnly_popSS c
  | segSS => exact dataOnly_segSS c
  | pushDS => exact dataOnly_pushDS c
  | popDS => exact dataOnly_popDS c
  | segDS => exact dataOnly_segDS c
  | daa => exact dataOnly_daa c
  | das => exact dataOnly_das c
  | aaa => exact dataOnly_aaa c
  | aas => exact dataOnly_aas c
  | nop => exact dataOnly_nop c
  | xchgAXCX => exact dataOnly_xchgAXCX c
  | xchgAXDX => exact dataOnly_xchgAXDX c
  | xchgAXBX => exact dataOnly_xchgAXBX c
  | xchgAXSP => exact dataOnly_xchgAXSP c
  | xchgAXBP => exact dataOnly_xchgAXBP c
  | xchgAXSI => exact dataOnly_xchgAXSI c
  | xchgAXDI => exact dataOnly_xchgAXDI c
  | cbw => exact dataOnly_cbw c
  | cwd => exact dataOnly_cwd c
  | wait => exact dataOnly_wait c
  | pushf => exact dataOnly_pushf c
  | popf => exact dataOnly_popf c
  | sahf => exact dataOnly_sahf c
  | lahf => exact dataOnly_lahf c
  | movsb => exact dataOnly_movsb c
  | movsw => exact dataOnly_movsw c
  | cmpsb => exact dataOnly_cmpsb c
  | cmpsw => exact dataOnly_cmpsw c
  | stosb => exact dataOnly_stosb c
  | stosw => exact dataOnly_stosw c
  | lodsb => exact dataOnly_lodsb c
  | lodsw => exact dataOnly_lodsw c
  | scasb => exact dataOnly_scasb c
  | scasw => exact dataOnly_scasw c
  | retC1 => exact dataOnly_retC1 c
  | ret => exact dataOnly_ret c
  | retfC9 => exact dataOnly_retfC9 c
  | retf => exact dataOnly_retf c
  | int3 => exact dataOnly_int3 c
  | into => exact dataOnly_into c
  | iret => exact dataOnly_iret c
  | salc => exact dataOnly_salc c
  | xlat => exact dataOnly_xlat c
  | inALDX => exact dataOnly_inALDX c
  | inAXDX => exact dataOnly_inAXDX c
  | outDXAL => exact dataOnly_outDXAL c
  | outDXAX => exact dataOnly_outDXAX c
  | lock => exact dataOnly_lock c
  | lockF1 => exact dataOnly_lockF1 c
  | repne => exact dataOnly_repne c
  | rep => exact dataOnly_rep c
  | hlt => exact dataOnly_hlt c
  | cmc => exact dataOnly_cmc c
  | clc => exact dataOnly_clc c
  | stc => exact dataOnly_stc c
  | cli => exact dataOnly_cli c
  | sti => exact dataOnly_sti c
  | cld => exact dataOnly_cld c
  | std => exact dataOnly_std c

/-- No access of an interrupt entry is a code fetch. -/
theorem dataOnly_entryProg (k : EntryKind) (ip : Word) (c : Cpu) : (entryProg k ip c).dataOnly := by
  cases k with
  | nmi => exact dataOnly_enter ..
  | maskable => exact ⟨rfl, fun _ => ⟨rfl, fun _ => dataOnly_enter ..⟩⟩
  | step => exact dataOnly_enter ..

/-- What is left of a program makes no code fetch either. -/
theorem dataOnly_resume (p : Prog) (bs : List Byte) (h : p.dataOnly) : (p.resume bs).dataOnly := by
  induction p generalizing bs with
  | bus r k ih => cases bs with
    | nil => exact h
    | cons b bs => exact ih b bs (h.2 b)
  | note c p ih => cases bs with
    | nil => exact h
    | cons b bs => exact ih (b :: bs) h
  | retire c => cases bs <;> exact h
  | transfer c => cases bs <;> exact h
  | more c => cases bs <;> exact h
  | test k => cases bs <;> exact h

/-- Answering a look at TEST leads to no code fetch. -/
theorem dataOnly_settle (p : Prog) (level : Bool) (h : p.dataOnly) : (p.settle level).dataOnly := by
  induction p with
  | test k ih => exact ih level (h level)
  | note c p ih => exact ih h
  | bus r k ih => exact h
  | retire c => exact h
  | transfer c => exact h
  | more c => exact h

end Sys2Proof.Machine
end

