-- ==== Sys2Proof/Laws/State.lean ====
section
/-!
SUPPORT. What each update leaves of each field: one lemma per field per update, so that no later proof unfolds a record update.
-/
namespace Sys2Proof.Machine

/-! ## The state -/

@[simp] theorem State.retire_cpu (s : State) (c : Cpu) : (s.retire c).cpu = c.endInstr := rfl
@[simp] theorem State.retire_nmi (s : State) (c : Cpu) : (s.retire c).nmi = s.nmi := rfl
@[simp] theorem State.retire_biu (s : State) (c : Cpu) : (s.retire c).biu = s.biu := rfl
@[simp] theorem State.retire_eu (s : State) (c : Cpu) : (s.retire c).eu = s.eu := rfl
@[simp] theorem State.retire_lines (s : State) (c : Cpu) : (s.retire c).lines = s.lines := rfl
@[simp] theorem State.retire_pic (s : State) (c : Cpu) : (s.retire c).pic = s.pic := rfl
@[simp] theorem State.retire_pit (s : State) (c : Cpu) : (s.retire c).pit = s.pit := rfl
@[simp] theorem State.retire_dma (s : State) (c : Cpu) : (s.retire c).dma = s.dma := rfl
@[simp] theorem State.retire_ppi (s : State) (c : Cpu) : (s.retire c).ppi = s.ppi := rfl
@[simp] theorem State.retire_video (s : State) (c : Cpu) : (s.retire c).video = s.video := rfl
@[simp] theorem State.retire_mem (s : State) (c : Cpu) : (s.retire c).mem = s.mem := rfl
@[simp] theorem State.retire_memEpoch (s : State) (c : Cpu) : (s.retire c).memEpoch = s.memEpoch := rfl
@[simp] theorem State.retire_host (s : State) (c : Cpu) : (s.retire c).host = s.host := rfl
@[simp] theorem State.retire_params (s : State) (c : Cpu) : (s.retire c).params = s.params := rfl

@[simp] theorem State.transfer_cpu (s : State) (c : Cpu) : (s.transfer c).cpu = c.endInstr := rfl
@[simp] theorem State.transfer_nmi (s : State) (c : Cpu) : (s.transfer c).nmi = s.nmi := rfl
@[simp] theorem State.transfer_biu (s : State) (c : Cpu) : (s.transfer c).biu = s.biu.flush := rfl
@[simp] theorem State.transfer_eu (s : State) (c : Cpu) : (s.transfer c).eu = s.eu := rfl
@[simp] theorem State.transfer_lines (s : State) (c : Cpu) : (s.transfer c).lines = s.lines := rfl
@[simp] theorem State.transfer_pic (s : State) (c : Cpu) : (s.transfer c).pic = s.pic := rfl
@[simp] theorem State.transfer_pit (s : State) (c : Cpu) : (s.transfer c).pit = s.pit := rfl
@[simp] theorem State.transfer_dma (s : State) (c : Cpu) : (s.transfer c).dma = s.dma := rfl
@[simp] theorem State.transfer_ppi (s : State) (c : Cpu) : (s.transfer c).ppi = s.ppi := rfl
@[simp] theorem State.transfer_video (s : State) (c : Cpu) : (s.transfer c).video = s.video := rfl
@[simp] theorem State.transfer_mem (s : State) (c : Cpu) : (s.transfer c).mem = s.mem := rfl
@[simp] theorem State.transfer_memEpoch (s : State) (c : Cpu) : (s.transfer c).memEpoch = s.memEpoch := rfl
@[simp] theorem State.transfer_host (s : State) (c : Cpu) : (s.transfer c).host = s.host := rfl
@[simp] theorem State.transfer_params (s : State) (c : Cpu) : (s.transfer c).params = s.params := rfl

@[simp] theorem State.log_biu (s : State) (r : BusReq) (b : Byte) (k : Nat) : (s.log r b k).biu =
    { s.biu with trace := s.biu.trace ++ [{ addr := r.addr, data := b, cycle := r.cycle, tick := k }] } := rfl
@[simp] theorem State.log_cpu (s : State) (r : BusReq) (b : Byte) (k : Nat) : (s.log r b k).cpu = s.cpu := rfl
@[simp] theorem State.log_nmi (s : State) (r : BusReq) (b : Byte) (k : Nat) : (s.log r b k).nmi = s.nmi := rfl
@[simp] theorem State.log_eu (s : State) (r : BusReq) (b : Byte) (k : Nat) : (s.log r b k).eu = s.eu := rfl
@[simp] theorem State.log_lines (s : State) (r : BusReq) (b : Byte) (k : Nat) : (s.log r b k).lines = s.lines := rfl
@[simp] theorem State.log_pic (s : State) (r : BusReq) (b : Byte) (k : Nat) : (s.log r b k).pic = s.pic := rfl
@[simp] theorem State.log_pit (s : State) (r : BusReq) (b : Byte) (k : Nat) : (s.log r b k).pit = s.pit := rfl
@[simp] theorem State.log_dma (s : State) (r : BusReq) (b : Byte) (k : Nat) : (s.log r b k).dma = s.dma := rfl
@[simp] theorem State.log_ppi (s : State) (r : BusReq) (b : Byte) (k : Nat) : (s.log r b k).ppi = s.ppi := rfl
@[simp] theorem State.log_video (s : State) (r : BusReq) (b : Byte) (k : Nat) : (s.log r b k).video = s.video := rfl
@[simp] theorem State.log_mem (s : State) (r : BusReq) (b : Byte) (k : Nat) : (s.log r b k).mem = s.mem := rfl
@[simp] theorem State.log_memEpoch (s : State) (r : BusReq) (b : Byte) (k : Nat) : (s.log r b k).memEpoch = s.memEpoch := rfl
@[simp] theorem State.log_host (s : State) (r : BusReq) (b : Byte) (k : Nat) : (s.log r b k).host = s.host := rfl
@[simp] theorem State.log_params (s : State) (r : BusReq) (b : Byte) (k : Nat) : (s.log r b k).params = s.params := rfl

@[simp] theorem State.goOn_nmi (s : State) : (s.goOn).nmi = s.nmi := rfl
@[simp] theorem State.goOn_biu (s : State) : (s.goOn).biu = s.biu := rfl
@[simp] theorem State.goOn_eu (s : State) : (s.goOn).eu = s.eu := rfl
@[simp] theorem State.goOn_lines (s : State) : (s.goOn).lines = s.lines := rfl
@[simp] theorem State.goOn_pic (s : State) : (s.goOn).pic = s.pic := rfl
@[simp] theorem State.goOn_pit (s : State) : (s.goOn).pit = s.pit := rfl
@[simp] theorem State.goOn_dma (s : State) : (s.goOn).dma = s.dma := rfl
@[simp] theorem State.goOn_ppi (s : State) : (s.goOn).ppi = s.ppi := rfl
@[simp] theorem State.goOn_video (s : State) : (s.goOn).video = s.video := rfl
@[simp] theorem State.goOn_mem (s : State) : (s.goOn).mem = s.mem := rfl
@[simp] theorem State.goOn_memEpoch (s : State) : (s.goOn).memEpoch = s.memEpoch := rfl
@[simp] theorem State.goOn_host (s : State) : (s.goOn).host = s.host := rfl
@[simp] theorem State.goOn_params (s : State) : (s.goOn).params = s.params := rfl

@[simp] theorem State.beginEntry_cpu (s : State) (k : EntryKind) : (s.beginEntry k).cpu = s.cpu.atEntry k := rfl
@[simp] theorem State.beginEntry_biu (s : State) (k : EntryKind) : (s.beginEntry k).biu = s.biu := rfl
@[simp] theorem State.beginEntry_eu (s : State) (k : EntryKind) : (s.beginEntry k).eu = s.eu := rfl
@[simp] theorem State.beginEntry_lines (s : State) (k : EntryKind) : (s.beginEntry k).lines = s.lines := rfl
@[simp] theorem State.beginEntry_pic (s : State) (k : EntryKind) : (s.beginEntry k).pic = s.pic := rfl
@[simp] theorem State.beginEntry_pit (s : State) (k : EntryKind) : (s.beginEntry k).pit = s.pit := rfl
@[simp] theorem State.beginEntry_dma (s : State) (k : EntryKind) : (s.beginEntry k).dma = s.dma := rfl
@[simp] theorem State.beginEntry_ppi (s : State) (k : EntryKind) : (s.beginEntry k).ppi = s.ppi := rfl
@[simp] theorem State.beginEntry_video (s : State) (k : EntryKind) : (s.beginEntry k).video = s.video := rfl
@[simp] theorem State.beginEntry_mem (s : State) (k : EntryKind) : (s.beginEntry k).mem = s.mem := rfl
@[simp] theorem State.beginEntry_memEpoch (s : State) (k : EntryKind) : (s.beginEntry k).memEpoch = s.memEpoch := rfl
@[simp] theorem State.beginEntry_host (s : State) (k : EntryKind) : (s.beginEntry k).host = s.host := rfl
@[simp] theorem State.beginEntry_params (s : State) (k : EntryKind) : (s.beginEntry k).params = s.params := rfl

@[simp] theorem State.atBoundary_cpu (s : State) : (s.atBoundary).cpu = s.cpu := rfl
@[simp] theorem State.atBoundary_nmi (s : State) : (s.atBoundary).nmi = s.nmi := rfl
@[simp] theorem State.atBoundary_eu (s : State) : (s.atBoundary).eu = s.eu := rfl
@[simp] theorem State.atBoundary_lines (s : State) : (s.atBoundary).lines = s.lines := rfl
@[simp] theorem State.atBoundary_pic (s : State) : (s.atBoundary).pic = s.pic := rfl
@[simp] theorem State.atBoundary_pit (s : State) : (s.atBoundary).pit = s.pit := rfl
@[simp] theorem State.atBoundary_dma (s : State) : (s.atBoundary).dma = s.dma := rfl
@[simp] theorem State.atBoundary_ppi (s : State) : (s.atBoundary).ppi = s.ppi := rfl
@[simp] theorem State.atBoundary_video (s : State) : (s.atBoundary).video = s.video := rfl
@[simp] theorem State.atBoundary_mem (s : State) : (s.atBoundary).mem = s.mem := rfl
@[simp] theorem State.atBoundary_memEpoch (s : State) : (s.atBoundary).memEpoch = s.memEpoch := rfl
@[simp] theorem State.atBoundary_host (s : State) : (s.atBoundary).host = s.host := rfl
@[simp] theorem State.atBoundary_params (s : State) : (s.atBoundary).params = s.params := rfl

@[simp] theorem State.clearOut_cpu (s : State) : (s.clearOut).cpu = s.cpu := rfl
@[simp] theorem State.clearOut_nmi (s : State) : (s.clearOut).nmi = s.nmi := rfl
@[simp] theorem State.clearOut_biu (s : State) : (s.clearOut).biu = s.biu := rfl
@[simp] theorem State.clearOut_eu (s : State) : (s.clearOut).eu = s.eu := rfl
@[simp] theorem State.clearOut_lines (s : State) : (s.clearOut).lines = s.lines := rfl
@[simp] theorem State.clearOut_pic (s : State) : (s.clearOut).pic = s.pic := rfl
@[simp] theorem State.clearOut_pit (s : State) : (s.clearOut).pit = s.pit := rfl
@[simp] theorem State.clearOut_dma (s : State) : (s.clearOut).dma = s.dma := rfl
@[simp] theorem State.clearOut_ppi (s : State) : (s.clearOut).ppi = s.ppi := rfl
@[simp] theorem State.clearOut_video (s : State) : (s.clearOut).video = s.video := rfl
@[simp] theorem State.clearOut_mem (s : State) : (s.clearOut).mem = s.mem := rfl
@[simp] theorem State.clearOut_memEpoch (s : State) : (s.clearOut).memEpoch = s.memEpoch := rfl
@[simp] theorem State.clearOut_params (s : State) : (s.clearOut).params = s.params := rfl

@[simp] theorem State.drewDevice_cpu (s : State) : (s.drewDevice).cpu = s.cpu := rfl
@[simp] theorem State.drewDevice_nmi (s : State) : (s.drewDevice).nmi = s.nmi := rfl
@[simp] theorem State.drewDevice_biu (s : State) : (s.drewDevice).biu = s.biu := rfl
@[simp] theorem State.drewDevice_eu (s : State) : (s.drewDevice).eu = s.eu := rfl
@[simp] theorem State.drewDevice_lines (s : State) : (s.drewDevice).lines = s.lines := rfl
@[simp] theorem State.drewDevice_pic (s : State) : (s.drewDevice).pic = s.pic := rfl
@[simp] theorem State.drewDevice_pit (s : State) : (s.drewDevice).pit = s.pit := rfl
@[simp] theorem State.drewDevice_dma (s : State) : (s.drewDevice).dma = s.dma := rfl
@[simp] theorem State.drewDevice_ppi (s : State) : (s.drewDevice).ppi = s.ppi := rfl
@[simp] theorem State.drewDevice_video (s : State) : (s.drewDevice).video = s.video := rfl
@[simp] theorem State.drewDevice_mem (s : State) : (s.drewDevice).mem = s.mem := rfl
@[simp] theorem State.drewDevice_memEpoch (s : State) : (s.drewDevice).memEpoch = s.memEpoch := rfl
@[simp] theorem State.drewDevice_params (s : State) : (s.drewDevice).params = s.params := rfl

@[simp] theorem State.dropInput_cpu (s : State) : (s.dropInput).cpu = s.cpu := rfl
@[simp] theorem State.dropInput_nmi (s : State) : (s.dropInput).nmi = s.nmi := rfl
@[simp] theorem State.dropInput_biu (s : State) : (s.dropInput).biu = s.biu := rfl
@[simp] theorem State.dropInput_eu (s : State) : (s.dropInput).eu = s.eu := rfl
@[simp] theorem State.dropInput_lines (s : State) : (s.dropInput).lines = s.lines := rfl
@[simp] theorem State.dropInput_pic (s : State) : (s.dropInput).pic = s.pic := rfl
@[simp] theorem State.dropInput_pit (s : State) : (s.dropInput).pit = s.pit := rfl
@[simp] theorem State.dropInput_dma (s : State) : (s.dropInput).dma = s.dma := rfl
@[simp] theorem State.dropInput_ppi (s : State) : (s.dropInput).ppi = s.ppi := rfl
@[simp] theorem State.dropInput_video (s : State) : (s.dropInput).video = s.video := rfl
@[simp] theorem State.dropInput_mem (s : State) : (s.dropInput).mem = s.mem := rfl
@[simp] theorem State.dropInput_memEpoch (s : State) : (s.dropInput).memEpoch = s.memEpoch := rfl
@[simp] theorem State.dropInput_params (s : State) : (s.dropInput).params = s.params := rfl

@[simp] theorem State.setLock_cpu (s : State) (b : Bool) : (s.setLock b).cpu = s.cpu := rfl
@[simp] theorem State.setLock_nmi (s : State) (b : Bool) : (s.setLock b).nmi = s.nmi := rfl
@[simp] theorem State.setLock_eu (s : State) (b : Bool) : (s.setLock b).eu = s.eu := rfl
@[simp] theorem State.setLock_lines (s : State) (b : Bool) : (s.setLock b).lines = s.lines := rfl
@[simp] theorem State.setLock_pic (s : State) (b : Bool) : (s.setLock b).pic = s.pic := rfl
@[simp] theorem State.setLock_pit (s : State) (b : Bool) : (s.setLock b).pit = s.pit := rfl
@[simp] theorem State.setLock_dma (s : State) (b : Bool) : (s.setLock b).dma = s.dma := rfl
@[simp] theorem State.setLock_ppi (s : State) (b : Bool) : (s.setLock b).ppi = s.ppi := rfl
@[simp] theorem State.setLock_video (s : State) (b : Bool) : (s.setLock b).video = s.video := rfl
@[simp] theorem State.setLock_mem (s : State) (b : Bool) : (s.setLock b).mem = s.mem := rfl
@[simp] theorem State.setLock_memEpoch (s : State) (b : Bool) : (s.setLock b).memEpoch = s.memEpoch := rfl
@[simp] theorem State.setLock_host (s : State) (b : Bool) : (s.setLock b).host = s.host := rfl
@[simp] theorem State.setLock_params (s : State) (b : Bool) : (s.setLock b).params = s.params := rfl

@[simp] theorem State.post_cpu (s : State) (r : BusReq) : (s.post r).cpu = s.cpu := rfl
@[simp] theorem State.post_nmi (s : State) (r : BusReq) : (s.post r).nmi = s.nmi := rfl
@[simp] theorem State.post_eu (s : State) (r : BusReq) : (s.post r).eu = s.eu := rfl
@[simp] theorem State.post_lines (s : State) (r : BusReq) : (s.post r).lines = s.lines := rfl
@[simp] theorem State.post_pic (s : State) (r : BusReq) : (s.post r).pic = s.pic := rfl
@[simp] theorem State.post_pit (s : State) (r : BusReq) : (s.post r).pit = s.pit := rfl
@[simp] theorem State.post_dma (s : State) (r : BusReq) : (s.post r).dma = s.dma := rfl
@[simp] theorem State.post_ppi (s : State) (r : BusReq) : (s.post r).ppi = s.ppi := rfl
@[simp] theorem State.post_video (s : State) (r : BusReq) : (s.post r).video = s.video := rfl
@[simp] theorem State.post_mem (s : State) (r : BusReq) : (s.post r).mem = s.mem := rfl
@[simp] theorem State.post_memEpoch (s : State) (r : BusReq) : (s.post r).memEpoch = s.memEpoch := rfl
@[simp] theorem State.post_host (s : State) (r : BusReq) : (s.post r).host = s.host := rfl
@[simp] theorem State.post_params (s : State) (r : BusReq) : (s.post r).params = s.params := rfl

@[simp] theorem State.extRead_cpu (s : State) (e : HostEvent) : ((s.extRead e).2).cpu = s.cpu := rfl
@[simp] theorem State.extRead_nmi (s : State) (e : HostEvent) : ((s.extRead e).2).nmi = s.nmi := rfl
@[simp] theorem State.extRead_biu (s : State) (e : HostEvent) : ((s.extRead e).2).biu = s.biu := rfl
@[simp] theorem State.extRead_eu (s : State) (e : HostEvent) : ((s.extRead e).2).eu = s.eu := rfl
@[simp] theorem State.extRead_lines (s : State) (e : HostEvent) : ((s.extRead e).2).lines = s.lines := rfl
@[simp] theorem State.extRead_pic (s : State) (e : HostEvent) : ((s.extRead e).2).pic = s.pic := rfl
@[simp] theorem State.extRead_pit (s : State) (e : HostEvent) : ((s.extRead e).2).pit = s.pit := rfl
@[simp] theorem State.extRead_dma (s : State) (e : HostEvent) : ((s.extRead e).2).dma = s.dma := rfl
@[simp] theorem State.extRead_ppi (s : State) (e : HostEvent) : ((s.extRead e).2).ppi = s.ppi := rfl
@[simp] theorem State.extRead_video (s : State) (e : HostEvent) : ((s.extRead e).2).video = s.video := rfl
@[simp] theorem State.extRead_mem (s : State) (e : HostEvent) : ((s.extRead e).2).mem = s.mem := rfl
@[simp] theorem State.extRead_memEpoch (s : State) (e : HostEvent) : ((s.extRead e).2).memEpoch = s.memEpoch := rfl
@[simp] theorem State.extRead_params (s : State) (e : HostEvent) : ((s.extRead e).2).params = s.params := rfl

@[simp] theorem State.extWrite_cpu (s : State) (e : HostEvent) : (s.extWrite e).cpu = s.cpu := rfl
@[simp] theorem State.extWrite_nmi (s : State) (e : HostEvent) : (s.extWrite e).nmi = s.nmi := rfl
@[simp] theorem State.extWrite_biu (s : State) (e : HostEvent) : (s.extWrite e).biu = s.biu := rfl
@[simp] theorem State.extWrite_eu (s : State) (e : HostEvent) : (s.extWrite e).eu = s.eu := rfl
@[simp] theorem State.extWrite_lines (s : State) (e : HostEvent) : (s.extWrite e).lines = s.lines := rfl
@[simp] theorem State.extWrite_pic (s : State) (e : HostEvent) : (s.extWrite e).pic = s.pic := rfl
@[simp] theorem State.extWrite_pit (s : State) (e : HostEvent) : (s.extWrite e).pit = s.pit := rfl
@[simp] theorem State.extWrite_dma (s : State) (e : HostEvent) : (s.extWrite e).dma = s.dma := rfl
@[simp] theorem State.extWrite_ppi (s : State) (e : HostEvent) : (s.extWrite e).ppi = s.ppi := rfl
@[simp] theorem State.extWrite_video (s : State) (e : HostEvent) : (s.extWrite e).video = s.video := rfl
@[simp] theorem State.extWrite_mem (s : State) (e : HostEvent) : (s.extWrite e).mem = s.mem := rfl
@[simp] theorem State.extWrite_memEpoch (s : State) (e : HostEvent) : (s.extWrite e).memEpoch = s.memEpoch := rfl
@[simp] theorem State.extWrite_host (s : State) (e : HostEvent) : (s.extWrite e).host = s.host.emit e := rfl
@[simp] theorem State.extWrite_params (s : State) (e : HostEvent) : (s.extWrite e).params = s.params := rfl

@[simp] theorem State.physRead_cpu (s : State) (a : Addr) : (s.physRead a).2.cpu = s.cpu := by
  unfold State.physRead; split <;> rfl
@[simp] theorem State.physRead_nmi (s : State) (a : Addr) : (s.physRead a).2.nmi = s.nmi := by
  unfold State.physRead; split <;> rfl
@[simp] theorem State.physRead_biu (s : State) (a : Addr) : (s.physRead a).2.biu = s.biu := by
  unfold State.physRead; split <;> rfl
@[simp] theorem State.physRead_eu (s : State) (a : Addr) : (s.physRead a).2.eu = s.eu := by
  unfold State.physRead; split <;> rfl
@[simp] theorem State.physRead_lines (s : State) (a : Addr) : (s.physRead a).2.lines = s.lines := by
  unfold State.physRead; split <;> rfl
@[simp] theorem State.physRead_pic (s : State) (a : Addr) : (s.physRead a).2.pic = s.pic := by
  unfold State.physRead; split <;> rfl
@[simp] theorem State.physRead_pit (s : State) (a : Addr) : (s.physRead a).2.pit = s.pit := by
  unfold State.physRead; split <;> rfl
@[simp] theorem State.physRead_dma (s : State) (a : Addr) : (s.physRead a).2.dma = s.dma := by
  unfold State.physRead; split <;> rfl
@[simp] theorem State.physRead_ppi (s : State) (a : Addr) : (s.physRead a).2.ppi = s.ppi := by
  unfold State.physRead; split <;> rfl
@[simp] theorem State.physRead_video (s : State) (a : Addr) : (s.physRead a).2.video = s.video := by
  unfold State.physRead; split <;> rfl
@[simp] theorem State.physRead_mem (s : State) (a : Addr) : (s.physRead a).2.mem = s.mem := by
  unfold State.physRead; split <;> rfl
@[simp] theorem State.physRead_memEpoch (s : State) (a : Addr) : (s.physRead a).2.memEpoch = s.memEpoch := by
  unfold State.physRead; split <;> rfl
@[simp] theorem State.physRead_params (s : State) (a : Addr) : (s.physRead a).2.params = s.params := by
  unfold State.physRead; split <;> rfl

@[simp] theorem State.poke_cpu (s : State) (a : Addr) (v : Byte) : (s.poke a v).cpu = s.cpu := by
  unfold State.poke; split <;> rfl
@[simp] theorem State.poke_nmi (s : State) (a : Addr) (v : Byte) : (s.poke a v).nmi = s.nmi := by
  unfold State.poke; split <;> rfl
@[simp] theorem State.poke_biu (s : State) (a : Addr) (v : Byte) : (s.poke a v).biu = s.biu := by
  unfold State.poke; split <;> rfl
@[simp] theorem State.poke_eu (s : State) (a : Addr) (v : Byte) : (s.poke a v).eu = s.eu := by
  unfold State.poke; split <;> rfl
@[simp] theorem State.poke_lines (s : State) (a : Addr) (v : Byte) : (s.poke a v).lines = s.lines := by
  unfold State.poke; split <;> rfl
@[simp] theorem State.poke_pic (s : State) (a : Addr) (v : Byte) : (s.poke a v).pic = s.pic := by
  unfold State.poke; split <;> rfl
@[simp] theorem State.poke_pit (s : State) (a : Addr) (v : Byte) : (s.poke a v).pit = s.pit := by
  unfold State.poke; split <;> rfl
@[simp] theorem State.poke_dma (s : State) (a : Addr) (v : Byte) : (s.poke a v).dma = s.dma := by
  unfold State.poke; split <;> rfl
@[simp] theorem State.poke_ppi (s : State) (a : Addr) (v : Byte) : (s.poke a v).ppi = s.ppi := by
  unfold State.poke; split <;> rfl
@[simp] theorem State.poke_video (s : State) (a : Addr) (v : Byte) : (s.poke a v).video = s.video := by
  unfold State.poke; split <;> rfl
@[simp] theorem State.poke_memEpoch (s : State) (a : Addr) (v : Byte) : (s.poke a v).memEpoch = s.memEpoch := by
  unfold State.poke; split <;> rfl
@[simp] theorem State.poke_host (s : State) (a : Addr) (v : Byte) : (s.poke a v).host = s.host := by
  unfold State.poke; split <;> rfl
@[simp] theorem State.poke_params (s : State) (a : Addr) (v : Byte) : (s.poke a v).params = s.params := by
  unfold State.poke; split <;> rfl

@[simp] theorem State.physWrite_cpu (s : State) (a : Addr) (v : Byte) : (s.physWrite a v).cpu = s.cpu := by
  unfold State.physWrite; split
  · rfl
  · exact State.poke_cpu s a v
@[simp] theorem State.physWrite_nmi (s : State) (a : Addr) (v : Byte) : (s.physWrite a v).nmi = s.nmi := by
  unfold State.physWrite; split
  · rfl
  · exact State.poke_nmi s a v
@[simp] theorem State.physWrite_biu (s : State) (a : Addr) (v : Byte) : (s.physWrite a v).biu = s.biu := by
  unfold State.physWrite; split
  · rfl
  · exact State.poke_biu s a v
@[simp] theorem State.physWrite_eu (s : State) (a : Addr) (v : Byte) : (s.physWrite a v).eu = s.eu := by
  unfold State.physWrite; split
  · rfl
  · exact State.poke_eu s a v
@[simp] theorem State.physWrite_lines (s : State) (a : Addr) (v : Byte) : (s.physWrite a v).lines = s.lines := by
  unfold State.physWrite; split
  · rfl
  · exact State.poke_lines s a v
@[simp] theorem State.physWrite_pic (s : State) (a : Addr) (v : Byte) : (s.physWrite a v).pic = s.pic := by
  unfold State.physWrite; split
  · rfl
  · exact State.poke_pic s a v
@[simp] theorem State.physWrite_pit (s : State) (a : Addr) (v : Byte) : (s.physWrite a v).pit = s.pit := by
  unfold State.physWrite; split
  · rfl
  · exact State.poke_pit s a v
@[simp] theorem State.physWrite_dma (s : State) (a : Addr) (v : Byte) : (s.physWrite a v).dma = s.dma := by
  unfold State.physWrite; split
  · rfl
  · exact State.poke_dma s a v
@[simp] theorem State.physWrite_ppi (s : State) (a : Addr) (v : Byte) : (s.physWrite a v).ppi = s.ppi := by
  unfold State.physWrite; split
  · rfl
  · exact State.poke_ppi s a v
@[simp] theorem State.physWrite_video (s : State) (a : Addr) (v : Byte) : (s.physWrite a v).video = s.video := by
  unfold State.physWrite; split
  · rfl
  · exact State.poke_video s a v
@[simp] theorem State.physWrite_memEpoch (s : State) (a : Addr) (v : Byte) : (s.physWrite a v).memEpoch = s.memEpoch := by
  unfold State.physWrite; split
  · rfl
  · exact State.poke_memEpoch s a v
@[simp] theorem State.physWrite_params (s : State) (a : Addr) (v : Byte) : (s.physWrite a v).params = s.params := by
  unfold State.physWrite; split
  · rfl
  · exact State.poke_params s a v

/-! ## The bus interface unit -/

@[simp] theorem Biu.flush_q (b : Biu) : (b.flush).q = [] := rfl
@[simp] theorem Biu.flush_t (b : Biu) : (b.flush).t = b.t := rfl
@[simp] theorem Biu.flush_eureq (b : Biu) : (b.flush).eureq = b.eureq := rfl
@[simp] theorem Biu.flush_eudone (b : Biu) : (b.flush).eudone = b.eudone := rfl
@[simp] theorem Biu.flush_lockline (b : Biu) : (b.flush).lockline = b.lockline := rfl
@[simp] theorem Biu.flush_ticks (b : Biu) : (b.flush).ticks = b.ticks := rfl
@[simp] theorem Biu.flush_trace (b : Biu) : (b.flush).trace = b.trace := rfl
@[simp] theorem Biu.flush_ring (b : Biu) : (b.flush).ring = b.ring := rfl
@[simp] theorem Biu.flush_boundary (b : Biu) : (b.flush).boundary = b.boundary := rfl

/-! ## The CPU -/

@[simp] theorem Cpu.endInstr_ax (c : Cpu) : (c.endInstr).ax = c.ax := rfl
@[simp] theorem Cpu.endInstr_cx (c : Cpu) : (c.endInstr).cx = c.cx := rfl
@[simp] theorem Cpu.endInstr_dx (c : Cpu) : (c.endInstr).dx = c.dx := rfl
@[simp] theorem Cpu.endInstr_bx (c : Cpu) : (c.endInstr).bx = c.bx := rfl
@[simp] theorem Cpu.endInstr_sp (c : Cpu) : (c.endInstr).sp = c.sp := rfl
@[simp] theorem Cpu.endInstr_bp (c : Cpu) : (c.endInstr).bp = c.bp := rfl
@[simp] theorem Cpu.endInstr_si (c : Cpu) : (c.endInstr).si = c.si := rfl
@[simp] theorem Cpu.endInstr_di (c : Cpu) : (c.endInstr).di = c.di := rfl
@[simp] theorem Cpu.endInstr_ip (c : Cpu) : (c.endInstr).ip = c.ip := rfl
@[simp] theorem Cpu.endInstr_es (c : Cpu) : (c.endInstr).es = c.es := rfl
@[simp] theorem Cpu.endInstr_cs (c : Cpu) : (c.endInstr).cs = c.cs := rfl
@[simp] theorem Cpu.endInstr_ss (c : Cpu) : (c.endInstr).ss = c.ss := rfl
@[simp] theorem Cpu.endInstr_ds (c : Cpu) : (c.endInstr).ds = c.ds := rfl
@[simp] theorem Cpu.endInstr_flags (c : Cpu) : (c.endInstr).flags = c.flags := rfl
@[simp] theorem Cpu.endInstr_inhibit (c : Cpu) : (c.endInstr).inhibit = c.inhibit := rfl
@[simp] theorem Cpu.endInstr_halted (c : Cpu) : (c.endInstr).halted = c.halted := rfl
@[simp] theorem Cpu.endInstr_waiting (c : Cpu) : (c.endInstr).waiting = c.waiting := rfl
@[simp] theorem Cpu.endInstr_tfAtStart (c : Cpu) : (c.endInstr).tfAtStart = c.tfAtStart := rfl
@[simp] theorem Cpu.endInstr_stepPending (c : Cpu) : (c.endInstr).stepPending = c.stepPending := rfl
@[simp] theorem Cpu.endInstr_repActive (c : Cpu) : (c.endInstr).repActive = none := rfl
@[simp] theorem Cpu.endInstr_segOverride (c : Cpu) : (c.endInstr).segOverride = none := rfl
@[simp] theorem Cpu.endInstr_repMark (c : Cpu) : (c.endInstr).repMark = none := rfl
@[simp] theorem Cpu.endInstr_lockMark (c : Cpu) : (c.endInstr).lockMark = false := rfl
@[simp] theorem Cpu.endInstr_prefixes (c : Cpu) : (c.endInstr).prefixes = [] := rfl
@[simp] theorem Cpu.endInstr_draws (c : Cpu) : (c.endInstr).draws = c.draws := rfl

@[simp] theorem Cpu.marked_ax (c : Cpu) (i : Instr) : (c.marked i).ax = c.ax := rfl
@[simp] theorem Cpu.marked_cx (c : Cpu) (i : Instr) : (c.marked i).cx = c.cx := rfl
@[simp] theorem Cpu.marked_dx (c : Cpu) (i : Instr) : (c.marked i).dx = c.dx := rfl
@[simp] theorem Cpu.marked_bx (c : Cpu) (i : Instr) : (c.marked i).bx = c.bx := rfl
@[simp] theorem Cpu.marked_sp (c : Cpu) (i : Instr) : (c.marked i).sp = c.sp := rfl
@[simp] theorem Cpu.marked_bp (c : Cpu) (i : Instr) : (c.marked i).bp = c.bp := rfl
@[simp] theorem Cpu.marked_si (c : Cpu) (i : Instr) : (c.marked i).si = c.si := rfl
@[simp] theorem Cpu.marked_di (c : Cpu) (i : Instr) : (c.marked i).di = c.di := rfl
@[simp] theorem Cpu.marked_ip (c : Cpu) (i : Instr) : (c.marked i).ip = c.ip := rfl
@[simp] theorem Cpu.marked_es (c : Cpu) (i : Instr) : (c.marked i).es = c.es := rfl
@[simp] theorem Cpu.marked_cs (c : Cpu) (i : Instr) : (c.marked i).cs = c.cs := rfl
@[simp] theorem Cpu.marked_ss (c : Cpu) (i : Instr) : (c.marked i).ss = c.ss := rfl
@[simp] theorem Cpu.marked_ds (c : Cpu) (i : Instr) : (c.marked i).ds = c.ds := rfl
@[simp] theorem Cpu.marked_flags (c : Cpu) (i : Instr) : (c.marked i).flags = c.flags := rfl
@[simp] theorem Cpu.marked_inhibit (c : Cpu) (i : Instr) : (c.marked i).inhibit = c.inhibit := rfl
@[simp] theorem Cpu.marked_halted (c : Cpu) (i : Instr) : (c.marked i).halted = c.halted := rfl
@[simp] theorem Cpu.marked_waiting (c : Cpu) (i : Instr) : (c.marked i).waiting = c.waiting := rfl
@[simp] theorem Cpu.marked_tfAtStart (c : Cpu) (i : Instr) : (c.marked i).tfAtStart = c.tfAtStart := rfl
@[simp] theorem Cpu.marked_stepPending (c : Cpu) (i : Instr) : (c.marked i).stepPending = c.stepPending := rfl
@[simp] theorem Cpu.marked_repActive (c : Cpu) (i : Instr) : (c.marked i).repActive = c.repActive := rfl
@[simp] theorem Cpu.marked_segOverride (c : Cpu) (i : Instr) : (c.marked i).segOverride = c.segOverride := rfl
@[simp] theorem Cpu.marked_repMark (c : Cpu) (i : Instr) : (c.marked i).repMark = c.repMark := rfl
@[simp] theorem Cpu.marked_lockMark (c : Cpu) (i : Instr) : (c.marked i).lockMark = c.lockMark := rfl
@[simp] theorem Cpu.marked_prefixes (c : Cpu) (i : Instr) : (c.marked i).prefixes = c.prefixes ++ [i] := rfl
@[simp] theorem Cpu.marked_draws (c : Cpu) (i : Instr) : (c.marked i).draws = c.draws := rfl

@[simp] theorem Cpu.drew_ax (c : Cpu) : (c.drew).ax = c.ax := rfl
@[simp] theorem Cpu.drew_cx (c : Cpu) : (c.drew).cx = c.cx := rfl
@[simp] theorem Cpu.drew_dx (c : Cpu) : (c.drew).dx = c.dx := rfl
@[simp] theorem Cpu.drew_bx (c : Cpu) : (c.drew).bx = c.bx := rfl
@[simp] theorem Cpu.drew_sp (c : Cpu) : (c.drew).sp = c.sp := rfl
@[simp] theorem Cpu.drew_bp (c : Cpu) : (c.drew).bp = c.bp := rfl
@[simp] theorem Cpu.drew_si (c : Cpu) : (c.drew).si = c.si := rfl
@[simp] theorem Cpu.drew_di (c : Cpu) : (c.drew).di = c.di := rfl
@[simp] theorem Cpu.drew_ip (c : Cpu) : (c.drew).ip = c.ip := rfl
@[simp] theorem Cpu.drew_es (c : Cpu) : (c.drew).es = c.es := rfl
@[simp] theorem Cpu.drew_cs (c : Cpu) : (c.drew).cs = c.cs := rfl
@[simp] theorem Cpu.drew_ss (c : Cpu) : (c.drew).ss = c.ss := rfl
@[simp] theorem Cpu.drew_ds (c : Cpu) : (c.drew).ds = c.ds := rfl
@[simp] theorem Cpu.drew_flags (c : Cpu) : (c.drew).flags = c.flags := rfl
@[simp] theorem Cpu.drew_inhibit (c : Cpu) : (c.drew).inhibit = c.inhibit := rfl
@[simp] theorem Cpu.drew_halted (c : Cpu) : (c.drew).halted = c.halted := rfl
@[simp] theorem Cpu.drew_waiting (c : Cpu) : (c.drew).waiting = c.waiting := rfl
@[simp] theorem Cpu.drew_tfAtStart (c : Cpu) : (c.drew).tfAtStart = c.tfAtStart := rfl
@[simp] theorem Cpu.drew_stepPending (c : Cpu) : (c.drew).stepPending = c.stepPending := rfl
@[simp] theorem Cpu.drew_repActive (c : Cpu) : (c.drew).repActive = c.repActive := rfl
@[simp] theorem Cpu.drew_segOverride (c : Cpu) : (c.drew).segOverride = c.segOverride := rfl
@[simp] theorem Cpu.drew_repMark (c : Cpu) : (c.drew).repMark = c.repMark := rfl
@[simp] theorem Cpu.drew_lockMark (c : Cpu) : (c.drew).lockMark = c.lockMark := rfl
@[simp] theorem Cpu.drew_prefixes (c : Cpu) : (c.drew).prefixes = c.prefixes := rfl
@[simp] theorem Cpu.drew_draws (c : Cpu) : (c.drew).draws = c.draws + 8 := rfl

@[simp] theorem Cpu.repeating_ax (c : Cpu) (k : RepKind) (o : Byte) : (c.repeating k o).ax = c.ax := rfl
@[simp] theorem Cpu.repeating_cx (c : Cpu) (k : RepKind) (o : Byte) : (c.repeating k o).cx = c.cx := rfl
@[simp] theorem Cpu.repeating_dx (c : Cpu) (k : RepKind) (o : Byte) : (c.repeating k o).dx = c.dx := rfl
@[simp] theorem Cpu.repeating_bx (c : Cpu) (k : RepKind) (o : Byte) : (c.repeating k o).bx = c.bx := rfl
@[simp] theorem Cpu.repeating_sp (c : Cpu) (k : RepKind) (o : Byte) : (c.repeating k o).sp = c.sp := rfl
@[simp] theorem Cpu.repeating_bp (c : Cpu) (k : RepKind) (o : Byte) : (c.repeating k o).bp = c.bp := rfl
@[simp] theorem Cpu.repeating_si (c : Cpu) (k : RepKind) (o : Byte) : (c.repeating k o).si = c.si := rfl
@[simp] theorem Cpu.repeating_di (c : Cpu) (k : RepKind) (o : Byte) : (c.repeating k o).di = c.di := rfl
@[simp] theorem Cpu.repeating_ip (c : Cpu) (k : RepKind) (o : Byte) : (c.repeating k o).ip = c.ip := rfl
@[simp] theorem Cpu.repeating_es (c : Cpu) (k : RepKind) (o : Byte) : (c.repeating k o).es = c.es := rfl
@[simp] theorem Cpu.repeating_cs (c : Cpu) (k : RepKind) (o : Byte) : (c.repeating k o).cs = c.cs := rfl
@[simp] theorem Cpu.repeating_ss (c : Cpu) (k : RepKind) (o : Byte) : (c.repeating k o).ss = c.ss := rfl
@[simp] theorem Cpu.repeating_ds (c : Cpu) (k : RepKind) (o : Byte) : (c.repeating k o).ds = c.ds := rfl
@[simp] theorem Cpu.repeating_flags (c : Cpu) (k : RepKind) (o : Byte) : (c.repeating k o).flags = c.flags := rfl
@[simp] theorem Cpu.repeating_inhibit (c : Cpu) (k : RepKind) (o : Byte) : (c.repeating k o).inhibit = c.inhibit := rfl
@[simp] theorem Cpu.repeating_halted (c : Cpu) (k : RepKind) (o : Byte) : (c.repeating k o).halted = c.halted := rfl
@[simp] theorem Cpu.repeating_waiting (c : Cpu) (k : RepKind) (o : Byte) : (c.repeating k o).waiting = c.waiting := rfl
@[simp] theorem Cpu.repeating_tfAtStart (c : Cpu) (k : RepKind) (o : Byte) : (c.repeating k o).tfAtStart = c.tfAtStart := rfl
@[simp] theorem Cpu.repeating_stepPending (c : Cpu) (k : RepKind) (o : Byte) : (c.repeating k o).stepPending = c.stepPending := rfl
@[simp] theorem Cpu.repeating_repActive (c : Cpu) (k : RepKind) (o : Byte) : (c.repeating k o).repActive = some { kind := k, opcode := o, resume := c.ip - 2 } := rfl
@[simp] theorem Cpu.repeating_segOverride (c : Cpu) (k : RepKind) (o : Byte) : (c.repeating k o).segOverride = c.segOverride := rfl
@[simp] theorem Cpu.repeating_repMark (c : Cpu) (k : RepKind) (o : Byte) : (c.repeating k o).repMark = c.repMark := rfl
@[simp] theorem Cpu.repeating_lockMark (c : Cpu) (k : RepKind) (o : Byte) : (c.repeating k o).lockMark = c.lockMark := rfl
@[simp] theorem Cpu.repeating_prefixes (c : Cpu) (k : RepKind) (o : Byte) : (c.repeating k o).prefixes = c.prefixes := rfl
@[simp] theorem Cpu.repeating_draws (c : Cpu) (k : RepKind) (o : Byte) : (c.repeating k o).draws = c.draws := rfl

/-- Shown registers leave the stream pointer and what is decided at boundaries. -/
@[simp] theorem Cpu.showing_ax (c d : Cpu) : (c.showing d).ax = d.ax := rfl
@[simp] theorem Cpu.showing_cx (c d : Cpu) : (c.showing d).cx = d.cx := rfl
@[simp] theorem Cpu.showing_dx (c d : Cpu) : (c.showing d).dx = d.dx := rfl
@[simp] theorem Cpu.showing_bx (c d : Cpu) : (c.showing d).bx = d.bx := rfl
@[simp] theorem Cpu.showing_sp (c d : Cpu) : (c.showing d).sp = d.sp := rfl
@[simp] theorem Cpu.showing_bp (c d : Cpu) : (c.showing d).bp = d.bp := rfl
@[simp] theorem Cpu.showing_si (c d : Cpu) : (c.showing d).si = d.si := rfl
@[simp] theorem Cpu.showing_di (c d : Cpu) : (c.showing d).di = d.di := rfl
@[simp] theorem Cpu.showing_ip (c d : Cpu) : (c.showing d).ip = c.ip := rfl
@[simp] theorem Cpu.showing_es (c d : Cpu) : (c.showing d).es = d.es := rfl
@[simp] theorem Cpu.showing_cs (c d : Cpu) : (c.showing d).cs = c.cs := rfl
@[simp] theorem Cpu.showing_ss (c d : Cpu) : (c.showing d).ss = d.ss := rfl
@[simp] theorem Cpu.showing_ds (c d : Cpu) : (c.showing d).ds = d.ds := rfl
@[simp] theorem Cpu.showing_flags (c d : Cpu) : (c.showing d).flags = d.flags := rfl
@[simp] theorem Cpu.showing_inhibit (c d : Cpu) : (c.showing d).inhibit = c.inhibit := rfl
@[simp] theorem Cpu.showing_halted (c d : Cpu) : (c.showing d).halted = c.halted := rfl
@[simp] theorem Cpu.showing_waiting (c d : Cpu) : (c.showing d).waiting = c.waiting := rfl
@[simp] theorem Cpu.showing_tfAtStart (c d : Cpu) : (c.showing d).tfAtStart = c.tfAtStart := rfl
@[simp] theorem Cpu.showing_stepPending (c d : Cpu) : (c.showing d).stepPending = c.stepPending := rfl
@[simp] theorem Cpu.showing_repActive (c d : Cpu) : (c.showing d).repActive = d.repActive := rfl
@[simp] theorem Cpu.showing_segOverride (c d : Cpu) : (c.showing d).segOverride = c.segOverride := rfl
@[simp] theorem Cpu.showing_repMark (c d : Cpu) : (c.showing d).repMark = c.repMark := rfl
@[simp] theorem Cpu.showing_lockMark (c d : Cpu) : (c.showing d).lockMark = c.lockMark := rfl
@[simp] theorem Cpu.showing_prefixes (c d : Cpu) : (c.showing d).prefixes = c.prefixes := rfl
@[simp] theorem Cpu.showing_draws (c d : Cpu) : (c.showing d).draws = d.draws := rfl

@[simp] theorem Cpu.set16_ip (c : Cpu) (r : Reg16) (v : Word) : (c.set16 r v).ip = c.ip := by cases r <;> rfl
@[simp] theorem Cpu.set16_es (c : Cpu) (r : Reg16) (v : Word) : (c.set16 r v).es = c.es := by cases r <;> rfl
@[simp] theorem Cpu.set16_cs (c : Cpu) (r : Reg16) (v : Word) : (c.set16 r v).cs = c.cs := by cases r <;> rfl
@[simp] theorem Cpu.set16_ss (c : Cpu) (r : Reg16) (v : Word) : (c.set16 r v).ss = c.ss := by cases r <;> rfl
@[simp] theorem Cpu.set16_ds (c : Cpu) (r : Reg16) (v : Word) : (c.set16 r v).ds = c.ds := by cases r <;> rfl
@[simp] theorem Cpu.set16_flags (c : Cpu) (r : Reg16) (v : Word) : (c.set16 r v).flags = c.flags := by cases r <;> rfl
@[simp] theorem Cpu.set16_inhibit (c : Cpu) (r : Reg16) (v : Word) : (c.set16 r v).inhibit = c.inhibit := by cases r <;> rfl
@[simp] theorem Cpu.set16_halted (c : Cpu) (r : Reg16) (v : Word) : (c.set16 r v).halted = c.halted := by cases r <;> rfl
@[simp] theorem Cpu.set16_waiting (c : Cpu) (r : Reg16) (v : Word) : (c.set16 r v).waiting = c.waiting := by cases r <;> rfl
@[simp] theorem Cpu.set16_tfAtStart (c : Cpu) (r : Reg16) (v : Word) : (c.set16 r v).tfAtStart = c.tfAtStart := by cases r <;> rfl
@[simp] theorem Cpu.set16_stepPending (c : Cpu) (r : Reg16) (v : Word) : (c.set16 r v).stepPending = c.stepPending := by cases r <;> rfl
@[simp] theorem Cpu.set16_repActive (c : Cpu) (r : Reg16) (v : Word) : (c.set16 r v).repActive = c.repActive := by cases r <;> rfl
@[simp] theorem Cpu.set16_segOverride (c : Cpu) (r : Reg16) (v : Word) : (c.set16 r v).segOverride = c.segOverride := by cases r <;> rfl
@[simp] theorem Cpu.set16_repMark (c : Cpu) (r : Reg16) (v : Word) : (c.set16 r v).repMark = c.repMark := by cases r <;> rfl
@[simp] theorem Cpu.set16_lockMark (c : Cpu) (r : Reg16) (v : Word) : (c.set16 r v).lockMark = c.lockMark := by cases r <;> rfl
@[simp] theorem Cpu.set16_prefixes (c : Cpu) (r : Reg16) (v : Word) : (c.set16 r v).prefixes = c.prefixes := by cases r <;> rfl
@[simp] theorem Cpu.set16_draws (c : Cpu) (r : Reg16) (v : Word) : (c.set16 r v).draws = c.draws := by cases r <;> rfl

@[simp] theorem Cpu.set8_sp (c : Cpu) (r : Reg8) (v : Byte) : (c.set8 r v).sp = c.sp := by cases r <;> rfl
@[simp] theorem Cpu.set8_bp (c : Cpu) (r : Reg8) (v : Byte) : (c.set8 r v).bp = c.bp := by cases r <;> rfl
@[simp] theorem Cpu.set8_si (c : Cpu) (r : Reg8) (v : Byte) : (c.set8 r v).si = c.si := by cases r <;> rfl
@[simp] theorem Cpu.set8_di (c : Cpu) (r : Reg8) (v : Byte) : (c.set8 r v).di = c.di := by cases r <;> rfl
@[simp] theorem Cpu.set8_ip (c : Cpu) (r : Reg8) (v : Byte) : (c.set8 r v).ip = c.ip := by cases r <;> rfl
@[simp] theorem Cpu.set8_es (c : Cpu) (r : Reg8) (v : Byte) : (c.set8 r v).es = c.es := by cases r <;> rfl
@[simp] theorem Cpu.set8_cs (c : Cpu) (r : Reg8) (v : Byte) : (c.set8 r v).cs = c.cs := by cases r <;> rfl
@[simp] theorem Cpu.set8_ss (c : Cpu) (r : Reg8) (v : Byte) : (c.set8 r v).ss = c.ss := by cases r <;> rfl
@[simp] theorem Cpu.set8_ds (c : Cpu) (r : Reg8) (v : Byte) : (c.set8 r v).ds = c.ds := by cases r <;> rfl
@[simp] theorem Cpu.set8_flags (c : Cpu) (r : Reg8) (v : Byte) : (c.set8 r v).flags = c.flags := by cases r <;> rfl
@[simp] theorem Cpu.set8_inhibit (c : Cpu) (r : Reg8) (v : Byte) : (c.set8 r v).inhibit = c.inhibit := by cases r <;> rfl
@[simp] theorem Cpu.set8_halted (c : Cpu) (r : Reg8) (v : Byte) : (c.set8 r v).halted = c.halted := by cases r <;> rfl
@[simp] theorem Cpu.set8_waiting (c : Cpu) (r : Reg8) (v : Byte) : (c.set8 r v).waiting = c.waiting := by cases r <;> rfl
@[simp] theorem Cpu.set8_tfAtStart (c : Cpu) (r : Reg8) (v : Byte) : (c.set8 r v).tfAtStart = c.tfAtStart := by cases r <;> rfl
@[simp] theorem Cpu.set8_stepPending (c : Cpu) (r : Reg8) (v : Byte) : (c.set8 r v).stepPending = c.stepPending := by cases r <;> rfl
@[simp] theorem Cpu.set8_repActive (c : Cpu) (r : Reg8) (v : Byte) : (c.set8 r v).repActive = c.repActive := by cases r <;> rfl
@[simp] theorem Cpu.set8_segOverride (c : Cpu) (r : Reg8) (v : Byte) : (c.set8 r v).segOverride = c.segOverride := by cases r <;> rfl
@[simp] theorem Cpu.set8_repMark (c : Cpu) (r : Reg8) (v : Byte) : (c.set8 r v).repMark = c.repMark := by cases r <;> rfl
@[simp] theorem Cpu.set8_lockMark (c : Cpu) (r : Reg8) (v : Byte) : (c.set8 r v).lockMark = c.lockMark := by cases r <;> rfl
@[simp] theorem Cpu.set8_prefixes (c : Cpu) (r : Reg8) (v : Byte) : (c.set8 r v).prefixes = c.prefixes := by cases r <;> rfl
@[simp] theorem Cpu.set8_draws (c : Cpu) (r : Reg8) (v : Byte) : (c.set8 r v).draws = c.draws := by cases r <;> rfl

@[simp] theorem Cpu.setSeg_ax (c : Cpu) (r : SReg) (v : Word) : (c.setSeg r v).ax = c.ax := by cases r <;> rfl
@[simp] theorem Cpu.setSeg_cx (c : Cpu) (r : SReg) (v : Word) : (c.setSeg r v).cx = c.cx := by cases r <;> rfl
@[simp] theorem Cpu.setSeg_dx (c : Cpu) (r : SReg) (v : Word) : (c.setSeg r v).dx = c.dx := by cases r <;> rfl
@[simp] theorem Cpu.setSeg_bx (c : Cpu) (r : SReg) (v : Word) : (c.setSeg r v).bx = c.bx := by cases r <;> rfl
@[simp] theorem Cpu.setSeg_sp (c : Cpu) (r : SReg) (v : Word) : (c.setSeg r v).sp = c.sp := by cases r <;> rfl
@[simp] theorem Cpu.setSeg_bp (c : Cpu) (r : SReg) (v : Word) : (c.setSeg r v).bp = c.bp := by cases r <;> rfl
@[simp] theorem Cpu.setSeg_si (c : Cpu) (r : SReg) (v : Word) : (c.setSeg r v).si = c.si := by cases r <;> rfl
@[simp] theorem Cpu.setSeg_di (c : Cpu) (r : SReg) (v : Word) : (c.setSeg r v).di = c.di := by cases r <;> rfl
@[simp] theorem Cpu.setSeg_ip (c : Cpu) (r : SReg) (v : Word) : (c.setSeg r v).ip = c.ip := by cases r <;> rfl
@[simp] theorem Cpu.setSeg_flags (c : Cpu) (r : SReg) (v : Word) : (c.setSeg r v).flags = c.flags := by cases r <;> rfl
@[simp] theorem Cpu.setSeg_inhibit (c : Cpu) (r : SReg) (v : Word) : (c.setSeg r v).inhibit = c.inhibit := by cases r <;> rfl
@[simp] theorem Cpu.setSeg_halted (c : Cpu) (r : SReg) (v : Word) : (c.setSeg r v).halted = c.halted := by cases r <;> rfl
@[simp] theorem Cpu.setSeg_waiting (c : Cpu) (r : SReg) (v : Word) : (c.setSeg r v).waiting = c.waiting := by cases r <;> rfl
@[simp] theorem Cpu.setSeg_tfAtStart (c : Cpu) (r : SReg) (v : Word) : (c.setSeg r v).tfAtStart = c.tfAtStart := by cases r <;> rfl
@[simp] theorem Cpu.setSeg_stepPending (c : Cpu) (r : SReg) (v : Word) : (c.setSeg r v).stepPending = c.stepPending := by cases r <;> rfl
@[simp] theorem Cpu.setSeg_repActive (c : Cpu) (r : SReg) (v : Word) : (c.setSeg r v).repActive = c.repActive := by cases r <;> rfl
@[simp] theorem Cpu.setSeg_segOverride (c : Cpu) (r : SReg) (v : Word) : (c.setSeg r v).segOverride = c.segOverride := by cases r <;> rfl
@[simp] theorem Cpu.setSeg_repMark (c : Cpu) (r : SReg) (v : Word) : (c.setSeg r v).repMark = c.repMark := by cases r <;> rfl
@[simp] theorem Cpu.setSeg_lockMark (c : Cpu) (r : SReg) (v : Word) : (c.setSeg r v).lockMark = c.lockMark := by cases r <;> rfl
@[simp] theorem Cpu.setSeg_prefixes (c : Cpu) (r : SReg) (v : Word) : (c.setSeg r v).prefixes = c.prefixes := by cases r <;> rfl
@[simp] theorem Cpu.setSeg_draws (c : Cpu) (r : SReg) (v : Word) : (c.setSeg r v).draws = c.draws := by cases r <;> rfl

/-- A written word register reads as the value written (30_encoding.md R135). -/
@[simp] theorem Cpu.r16_set16 (c : Cpu) (r : Reg16) (v : Word) : (c.set16 r v).r16 r = v := by cases r <;> rfl

/-- The other word registers stay (30_encoding.md R135). -/
theorem Cpu.r16_set16_other (c : Cpu) (r q : Reg16) (v : Word) (h : q ≠ r) : (c.set16 r v).r16 q = c.r16 q := by
  cases r <;> cases q <;> first | rfl | exact absurd rfl h

/-- A written segment register reads as the value written. -/
@[simp] theorem Cpu.seg_setSeg (c : Cpu) (r : SReg) (v : Word) : (c.setSeg r v).seg r = v := by cases r <;> rfl

/-- The other segment registers stay. -/
theorem Cpu.seg_setSeg_other (c : Cpu) (r q : SReg) (v : Word) (h : q ≠ r) : (c.setSeg r v).seg q = c.seg q := by
  cases r <;> cases q <;> first | rfl | exact absurd rfl h

/-- A write of a general register leaves the segment registers. -/
@[simp] theorem Cpu.seg_set16 (c : Cpu) (r : Reg16) (v : Word) (q : SReg) : (c.set16 r v).seg q = c.seg q := by
  cases q <;> simp [Cpu.seg]

/-- A write of a byte register leaves the segment registers. -/
@[simp] theorem Cpu.seg_set8 (c : Cpu) (r : Reg8) (v : Byte) (q : SReg) : (c.set8 r v).seg q = c.seg q := by
  cases q <;> simp [Cpu.seg]

/-- A write of a segment register leaves the general registers. -/
@[simp] theorem Cpu.r16_setSeg (c : Cpu) (r : SReg) (v : Word) (q : Reg16) : (c.setSeg r v).r16 q = c.r16 q := by
  cases q <;> simp [Cpu.r16]

end Sys2Proof.Machine
end

