-- ==== Sys2Proof/Laws/Memory.lean ====
section
/-!
SUPPORT. Laws of memory: what reading after writing gives, and that every memory operation keeps the canonical form
(20_memory.md R84, R96, R101).
-/
namespace Sys2Proof.Machine

/-! ## The list -/

theorem risingFrom_weaken {j k : Nat} (m : List Host.Cell) (h : j ≤ k) (hm : risingFrom k m = true) : risingFrom j m = true := by
  cases m with
  | nil => rfl
  | cons c m =>
    simp only [risingFrom, Bool.and_eq_true, decide_eq_true_eq] at hm ⊢
    exact ⟨by omega, hm.2⟩

theorem rising_of_risingFrom {k : Nat} (m : List Host.Cell) (h : risingFrom k m = true) : rising m = true := by
  cases m with
  | nil => rfl
  | cons c m => simp only [risingFrom, Bool.and_eq_true] at h; exact h.2

/-- An inserted key reads as its byte. -/
theorem lookup_insert_same (k : Nat) (v : Byte) (m : List Host.Cell) : lookup k (insert k v m) = some v := by
  induction m with
  | nil => simp [insert, lookup]
  | cons c m ih =>
    obtain ⟨k', v'⟩ := c
    simp only [insert]
    split
    · simp [lookup]
    · split
      · simp [lookup]
      · simp_all [lookup]

/-- Inserting a key leaves the others. -/
theorem lookup_insert_other (j k : Nat) (v : Byte) (m : List Host.Cell) (h : j ≠ k) :
    lookup j (insert k v m) = lookup j m := by
  induction m with
  | nil => simp only [insert, lookup]; split <;> simp_all
  | cons c m ih =>
    obtain ⟨k', v'⟩ := c
    simp only [insert]
    split
    · simp only [lookup]
      split
      · rename_i h1 h2
        simp [show j < k' by omega]
      · simp
    · split
      · subst_vars
        simp only [lookup]
        split <;> simp_all
      · simp only [lookup, ih]

theorem risingFrom_insert (j k : Nat) (v : Byte) (m : List Host.Cell) (hj : j < k) (hm : risingFrom j m = true) :
    risingFrom j (insert k v m) = true := by
  induction m generalizing j with
  | nil => simp [insert, risingFrom, hj]
  | cons c m ih =>
    obtain ⟨k', v'⟩ := c
    simp only [risingFrom, Bool.and_eq_true, decide_eq_true_eq] at hm
    simp only [insert]
    split
    · simp_all [risingFrom]
    · split
      · subst_vars; simp [risingFrom, hm.2, hj]
      · simp only [risingFrom, Bool.and_eq_true, decide_eq_true_eq]
        exact ⟨hm.1, ih k' (by omega) hm.2⟩

/-- Inserting keeps the keys rising. -/
theorem rising_insert (k : Nat) (v : Byte) (m : List Host.Cell) (hm : rising m = true) : rising (insert k v m) = true := by
  cases m with
  | nil => rfl
  | cons c m =>
    obtain ⟨k', v'⟩ := c
    simp only [rising] at hm
    simp only [insert]
    split
    · simp_all [rising, risingFrom]
    · split
      · subst_vars; exact hm
      · exact risingFrom_insert k' k v m (by omega) hm

/-- The cells of the list after an insertion are the old ones and the new one. -/
theorem all_insert (p : Host.Cell → Bool) (k : Nat) (v : Byte) (m : List Host.Cell) (hp : p (k, v) = true)
    (hm : m.all p = true) : (insert k v m).all p = true := by
  induction m with
  | nil => simp [insert, hp]
  | cons c m ih =>
    obtain ⟨k', v'⟩ := c
    simp only [List.all_cons, Bool.and_eq_true] at hm
    simp only [insert]
    split
    · simp [hp, hm.1, hm.2]
    · split
      · simp [hp, hm.2]
      · simp only [List.all_cons, Bool.and_eq_true]; exact ⟨hm.1, ih hm.2⟩

theorem risingFrom_erase (j k : Nat) (m : List Host.Cell) (hm : risingFrom j m = true) : risingFrom j (erase k m) = true := by
  induction m generalizing j with
  | nil => rfl
  | cons c m ih =>
    obtain ⟨k', v'⟩ := c
    have hm' := hm
    simp only [risingFrom, Bool.and_eq_true, decide_eq_true_eq] at hm
    simp only [erase]
    split
    · exact hm'
    · split
      · exact risingFrom_weaken m (by omega) hm.2
      · simp only [risingFrom, Bool.and_eq_true, decide_eq_true_eq]; exact ⟨hm.1, ih k' hm.2⟩

/-- Erasing keeps the keys rising. -/
theorem rising_erase (k : Nat) (m : List Host.Cell) (hm : rising m = true) : rising (erase k m) = true := by
  cases m with
  | nil => rfl
  | cons c m =>
    obtain ⟨k', v'⟩ := c
    simp only [rising] at hm
    simp only [erase]
    split
    · exact hm
    · split
      · exact rising_of_risingFrom m hm
      · exact risingFrom_erase k' k m hm

theorem all_erase (p : Host.Cell → Bool) (k : Nat) (m : List Host.Cell) (hm : m.all p = true) :
    (erase k m).all p = true := by
  induction m with
  | nil => rfl
  | cons c m ih =>
    obtain ⟨k', v'⟩ := c
    have hm' := hm
    simp only [List.all_cons, Bool.and_eq_true] at hm
    simp only [erase]
    split
    · exact hm'
    · split
      · exact hm.2
      · simp only [List.all_cons, Bool.and_eq_true]; exact ⟨hm.1, ih hm.2⟩

theorem risingFrom_filter (j : Nat) (p : Host.Cell → Bool) (m : List Host.Cell) (hm : risingFrom j m = true) :
    risingFrom j (m.filter p) = true := by
  induction m generalizing j with
  | nil => rfl
  | cons c m ih =>
    obtain ⟨k', v'⟩ := c
    simp only [risingFrom, Bool.and_eq_true, decide_eq_true_eq] at hm
    rw [List.filter_cons]
    split
    · simp only [risingFrom, Bool.and_eq_true, decide_eq_true_eq]; exact ⟨hm.1, ih k' hm.2⟩
    · exact ih j (risingFrom_weaken m (by omega) hm.2)

/-- Keeping some cells keeps the keys rising. -/
theorem rising_filter (p : Host.Cell → Bool) (m : List Host.Cell) (hm : rising m = true) : rising (m.filter p) = true := by
  induction m with
  | nil => rfl
  | cons c m ih =>
    obtain ⟨k', v'⟩ := c
    simp only [rising] at hm
    rw [List.filter_cons]
    split
    · exact risingFrom_filter k' p m hm
    · exact ih (rising_of_risingFrom m hm)

/-! ## Addresses -/

/-- A key is below the size of memory. -/
theorem cellKey_lt (a : Addr) : cellKey a < 2 ^ 20 := by
  unfold cellKey
  have := a.isLt
  split <;> omega

/-- An address's key as a number. -/
theorem toNat_cellKey (a : Addr) : (BitVec.ofNat 20 (cellKey a)).toNat = cellKey a := by
  rw [BitVec.toNat_ofNat, Nat.mod_eq_of_lt (cellKey_lt a)]

/-- The key of a key's address is the key itself. -/
theorem cellKey_cellKey (a : Addr) : cellKey (BitVec.ofNat 20 (cellKey a)) = cellKey a := by
  have h : cellKey (BitVec.ofNat 20 (cellKey a)) =
      if 0xB8000 ≤ cellKey a ∧ cellKey a < 0xC0000 then 0xB8000 + cellKey a % 0x4000 else cellKey a := by
    rw [cellKey, toNat_cellKey]
  rw [h]
  unfold cellKey
  split
  · rw [if_pos (by omega)]; omega
  · rfl

/-- The backing of a key's address is that of the address. -/
theorem backing_cellKey (r : Nat) (a : Addr) : backing r (BitVec.ofNat 20 (cellKey a)) = backing r a := by
  unfold backing
  rw [toNat_cellKey]
  unfold cellKey
  split
  · rw [if_pos (by omega)]
  · rfl

/-! ## The state's memory -/

/-- A stored byte reads back, wherever memory can be written (20_memory.md R84, R101). -/
theorem State.peek_poke_same (s : State) (a b : Addr) (v : Byte) (hk : cellKey b = cellKey a)
    (ha : backing s.params.ramSize a ≠ .rom) : (s.poke a v).peek b = v := by
  simp only [State.peek, State.poke, if_neg ha, hk, lookup_insert_same, Option.getD_some]

/-- A store leaves every other byte (20_memory.md R101). -/
theorem State.peek_poke_other (s : State) (a b : Addr) (v : Byte) (hk : cellKey b ≠ cellKey a) :
    (s.poke a v).peek b = s.peek b := by
  unfold State.poke
  split
  · rfl
  · simp only [State.peek, lookup_insert_other _ _ _ _ hk]

/-- A store to ROM or to an unclaimed address is dropped (20_memory.md R84). -/
theorem State.poke_rom (s : State) (a : Addr) (v : Byte) (ha : backing s.params.ramSize a = .rom) : s.poke a v = s := by
  simp [State.poke, ha]

/-- Reading does not look at the trace. -/
@[simp] theorem State.peek_log (s : State) (r : BusReq) (b : Byte) (k : Nat) (a : Addr) : (s.log r b k).peek a = s.peek a := rfl

/-- Where no handler of the host answers, a read gives the block's byte and changes nothing (20_memory.md R94). -/
theorem State.physRead_internal (s : State) (a : Addr) (h : s.externalAt a = false) : s.physRead a = (s.peek a, s) := by
  simp [State.physRead, h]

/-- Where no handler of the host answers, a write changes the block's byte. -/
theorem State.physWrite_internal (s : State) (a : Addr) (v : Byte) (h : s.externalAt a = false) :
    s.physWrite a v = s.poke a v := by
  simp [State.physWrite, h]

/-- RAM and video memory are no handler's. -/
theorem State.externalAt_backed (s : State) (a : Addr) (h : backing s.params.ramSize a ≠ .rom) : s.externalAt a = false := by
  simp [State.externalAt, h]

/-- A read leaves the block's memory. -/
@[simp] theorem State.peek_physRead (s : State) (a b : Addr) : (s.physRead a).2.peek b = s.peek b := by simp [State.peek]

/-- A write leaves every byte but its own. -/
theorem State.peek_physWrite_other (s : State) (a b : Addr) (v : Byte) (h : cellKey b ≠ cellKey a) :
    (s.physWrite a v).peek b = s.peek b := by
  unfold State.physWrite
  split
  · rfl
  · exact s.peek_poke_other a b v h

/-- Completing an instruction leaves memory. -/
@[simp] theorem State.peek_retire (s : State) (c : Cpu) (a : Addr) : (s.retire c).peek a = s.peek a := rfl

/-- Completing an instruction with a transfer leaves memory. -/
@[simp] theorem State.peek_transfer (s : State) (c : Cpu) (a : Addr) : (s.transfer c).peek a = s.peek a := rfl

/-- The cell of a store may stand in the list. -/
theorem Cell.wf_stored (r : Nat) (a : Addr) (v : Byte) (h : backing r a ≠ .rom) : Cell.wf r (cellKey a, v) = true := by
  have hk := cellKey_lt a
  simp [Cell.wf, cellKey_cellKey, backing_cellKey, h]
  omega

/-- A store keeps the canonical form. -/
theorem Memory.wf_poke (s : State) (a : Addr) (v : Byte) (h : Memory.wf s.params.ramSize s.mem = true) :
    Memory.wf s.params.ramSize (s.poke a v).mem = true := by
  unfold State.poke
  split
  · exact h
  · rename_i hb
    simp only [Memory.wf, Bool.and_eq_true] at h ⊢
    exact ⟨rising_insert _ _ _ h.1, all_insert _ _ _ _ (Cell.wf_stored _ a v hb) h.2⟩

/-- A load keeps the canonical form. -/
theorem Memory.wf_load (s : State) (a : Addr) (v : Byte) (h : Memory.wf s.params.ramSize s.mem = true) :
    Memory.wf s.params.ramSize (s.load a v).mem = true := by
  simp only [Memory.wf, Bool.and_eq_true] at h
  unfold State.load
  split
  · simp only [Memory.wf, Bool.and_eq_true]
    exact ⟨rising_erase _ _ h.1, all_erase _ _ _ h.2⟩
  · rename_i hb
    simp only [Memory.wf, Bool.and_eq_true]
    refine ⟨rising_insert _ _ _ h.1, all_insert _ _ _ _ ?_ h.2⟩
    simp only [Cell.wf, cellKey_lt, cellKey_cellKey, backing_cellKey, decide_true, Bool.true_and, Bool.not_eq_true',
      Bool.and_eq_false_iff, decide_eq_false_iff_not]
    by_cases hr : backing s.params.ramSize a = .rom
    · exact .inr fun hv => hb ⟨hr, hv⟩
    · exact .inl hr

/-- What a reset keeps of memory is in canonical form. -/
theorem Memory.wf_keepRom (r : Nat) (m : List Host.Cell) (h : Memory.wf r m = true) : Memory.wf r (keepRom r m) = true := by
  simp only [Memory.wf, Bool.and_eq_true, keepRom] at h ⊢
  refine ⟨rising_filter _ _ h.1, ?_⟩
  have h2 := h.2
  rw [List.all_eq_true] at h2 ⊢
  intro x hx
  exact h2 x (List.mem_filter.mp hx).1

end Sys2Proof.Machine
end

