-- ==== Sys2Proof/Laws/Exec.lean ====
section
/-!
SUPPORT. Laws of the shared operations: what running a program does, one lemma for each operation it is built from, and `exec`
as the run of the instruction's program.
-/
namespace Sys2Proof.Machine

/-! ## `exec` -/

/-- Executing an instruction is running its program. -/
theorem exec_eq (i : Instr) (s : State) : exec i s = .next ((progOf i s.cpu).run s) := by cases i <;> rfl

/-! ## Accesses -/

@[simp] theorem State.perform_code (s : State) (a : Addr) :
    s.perform (.code a) = ((s.physRead a).1, (s.physRead a).2.log (.code a) (s.physRead a).1 s.biu.ticks) := rfl

@[simp] theorem State.perform_memR (s : State) (a : Addr) :
    s.perform (.memR a) = ((s.physRead a).1, (s.physRead a).2.log (.memR a) (s.physRead a).1 s.biu.ticks) := rfl

theorem State.perform_memW (s : State) (a : Addr) (v : Byte) :
    s.perform (.memW a v) = (v, (s.physWrite a v).log (.memW a v) v s.biu.ticks) := rfl

@[simp] theorem State.performs_nil (s : State) : s.performs [] = s := rfl

@[simp] theorem State.performs_cons (s : State) (r : BusReq) (rs : List BusReq) :
    s.performs (r :: rs) = ((s.perform r).2).performs rs := rfl

theorem State.performs_append (s : State) (rs ts : List BusReq) : s.performs (rs ++ ts) = (s.performs rs).performs ts := by
  induction rs generalizing s with
  | nil => rfl
  | cons r rs ih => exact ih _

/-- A port access leaves the CPU. -/
theorem State.portRead_cpu (s : State) (p : Word) : (s.portRead p).2.cpu = s.cpu := by
  unfold State.portRead
  cases portDevice p <;> first | rfl | (simp only; split <;> rfl)

/-- A port access leaves the CPU. -/
theorem State.portWrite_cpu (s : State) (p : Word) (v : Byte) : (s.portWrite p v).cpu = s.cpu := by
  unfold State.portWrite
  cases portDevice p <;> first | rfl | (simp only; split <;> rfl)

/-- No access changes the CPU. -/
@[simp] theorem State.perform_cpu (s : State) (r : BusReq) : (s.perform r).2.cpu = s.cpu := by
  cases r with
  | code a => simp
  | memR a => simp
  | memW a v => simp [State.perform_memW]
  | ioR p => exact State.portRead_cpu s p
  | ioW p v => exact State.portWrite_cpu s p v
  | inta => simp only [State.perform, State.access, State.intaCycle]; split <;> rfl

@[simp] theorem State.performs_cpu (s : State) (rs : List BusReq) : (s.performs rs).cpu = s.cpu := by
  induction rs generalizing s with
  | nil => rfl
  | cons r rs ih => simp [ih]

/-! ## Programs -/

@[simp] theorem Prog.run_retire (c : Cpu) (s : State) : (Prog.retire c).run s = s.retire c := rfl

@[simp] theorem Prog.run_transfer (c : Cpu) (s : State) : (Prog.transfer c).run s = s.transfer c := rfl

@[simp] theorem Prog.run_more (c : Cpu) (s : State) : (Prog.more c).run s = { s with cpu := c } := rfl

@[simp] theorem Prog.run_bus (r : BusReq) (k : Byte → Prog) (s : State) :
    (Prog.bus r k).run s = (k (s.perform r).1).run (s.perform r).2 := rfl

@[simp] theorem Prog.run_note (c : Cpu) (p : Prog) (s : State) : (Prog.note c p).run s = p.run s := rfl

@[simp] theorem Prog.run_test (k : Bool → Prog) (s : State) : (Prog.test k).run s = (k s.lines.test).run s := rfl

/-- What every access and every end of an instruction keeps, running a program keeps. -/
theorem Prog.run_keeps (P : State → Prop) (access : ∀ s r, P s → P (s.perform r).2) (retire : ∀ s c, P s → P (s.retire c))
    (transfer : ∀ s c, P s → P (s.transfer c)) (more : ∀ s (c : Cpu), P s → P { s with cpu := c }) (p : Prog) (s : State)
    (h : P s) : P (p.run s) := by
  induction p generalizing s with
  | retire c => exact retire s c h
  | transfer c => exact transfer s c h
  | more c => exact more s c h
  | note c p ih => exact ih _ h
  | bus r k ih => exact ih _ _ (access s r h)
  | test k ih => exact ih _ _ h

/-! ## Memory -/

@[simp] theorem run_readByte (seg off : Word) (k : Byte → Prog) (s : State) :
    (readByte seg off k).run s = (k (s.byte seg off)).run (s.performs [.memR (phys seg off)]) := rfl

@[simp] theorem run_readWord (seg off : Word) (k : Word → Prog) (s : State) :
    (readWord seg off k).run s = (k (s.word seg off)).run (s.performs (wordReads seg off)) := rfl

@[simp] theorem run_writeByte (seg off : Word) (v : Byte) (p : Prog) (s : State) :
    (writeByte seg off v p).run s = p.run (s.performs [.memW (phys seg off) v]) := rfl

/-- The high half of a word. -/
theorem hiByte_eq (v : Word) : hiByte v = v.extractLsb' 8 8 := by
  ext i
  simp [hiByte, BitVec.getElem_setWidth, BitVec.getLsbD_ushiftRight]

@[simp] theorem run_writeWord (seg off v : Word) (p : Prog) (s : State) :
    (writeWord seg off v p).run s = p.run (s.performs (wordWrites seg off v)) := by
  rw [wordWrites, ← hiByte_eq]; rfl

@[simp] theorem run_push16 (v : Word) (c : Cpu) (k : Cpu → Prog) (s : State) :
    (push16 v c k).run s = (k { c with sp := c.sp - 2 }).run (s.performs (wordWrites c.ss (c.sp - 2) v)) := by
  simp [push16]

@[simp] theorem run_pop16 (c : Cpu) (k : Word → Cpu → Prog) (s : State) :
    (pop16 c k).run s = (k (s.word c.ss c.sp) { c with sp := c.sp + 2 }).run (s.performs (wordReads c.ss c.sp)) := rfl

/-- Reads of memory leave memory. -/
theorem State.peek_performs_reads (s : State) (as : List Addr) (a : Addr) :
    (s.performs (as.map .memR)).peek a = s.peek a := by
  induction as generalizing s with
  | nil => rfl
  | cons b as ih => simp [ih]

@[simp] theorem State.peek_performs_memR (s : State) (b a : Addr) : (s.performs [.memR b]).peek a = s.peek a := by simp

@[simp] theorem State.peek_performs_wordReads (s : State) (seg off : Word) (a : Addr) :
    (s.performs (wordReads seg off)).peek a = s.peek a := by simp [wordReads]

/-- Memory accesses leave every byte they do not store to. -/
theorem State.peek_performs_other (s : State) (rs : List BusReq) (a : Addr) (hm : ∀ r ∈ rs, r.isMemory = true)
    (hs : ∀ r ∈ rs, ∀ b, r.stored = some b → ¬sameByte a b) : (s.performs rs).peek a = s.peek a := by
  induction rs generalizing s with
  | nil => rfl
  | cons r rs ih =>
    rw [State.performs_cons, ih _ (fun q hq => hm q (List.mem_cons_of_mem _ hq))
      (fun q hq => hs q (List.mem_cons_of_mem _ hq))]
    have h1 := hm r (List.mem_cons_self ..)
    have h2 := hs r (List.mem_cons_self ..)
    cases r with
    | code b => simp
    | memR b => simp
    | memW b v => rw [State.perform_memW, State.peek_log, State.peek_physWrite_other _ _ _ _ (h2 b rfl)]
    | ioR p => simp [BusReq.isMemory] at h1
    | ioW p v => simp [BusReq.isMemory] at h1
    | inta => simp [BusReq.isMemory] at h1

/-! ## Operands -/

@[simp] theorem place_reg {R : Type} (c : Cpu) (r : R) : c.place (.reg r) = .reg r := rfl

@[simp] theorem place_mem {R : Type} (c : Cpu) (m : Mem) : c.place (.mem m : RM R) = .mem (c.memSeg m) (c.offset m) := rfl

/-- Loading a byte operand in the state whose CPU gives its place. -/
theorem run_load8 (s : State) (rm : RM8) (k : Byte → Prog) :
    (byteWidth.load s.cpu (s.cpu.place rm) k).run s = (k (s.operand8 rm)).run (s.performs (s.cpu.reads8 rm)) := by
  cases rm <;> rfl

/-- Loading a word operand in the state whose CPU gives its place. -/
theorem run_load16 (s : State) (rm : RM16) (k : Word → Prog) :
    (wordWidth.load s.cpu (s.cpu.place rm) k).run s = (k (s.operand16 rm)).run (s.performs (s.cpu.reads16 rm)) := by
  cases rm <;> rfl

/-- Storing a byte operand at a place computed from `c`. -/
theorem run_store8 (s : State) (c d : Cpu) (rm : RM8) (v : Byte) (k : Cpu → Prog) :
    (byteWidth.store d (c.place rm) v k).run s = (k (d.into8 v rm)).run (s.performs (c.writes8 v rm)) := by
  cases rm <;> rfl

/-- Storing a word operand at a place computed from `c`. -/
theorem run_store16 (s : State) (c d : Cpu) (rm : RM16) (v : Word) (k : Cpu → Prog) :
    (wordWidth.store d (c.place rm) v k).run s = (k (d.into16 v rm)).run (s.performs (c.writes16 v rm)) := by
  cases rm with
  | reg r => rfl
  | mem m => rw [place_mem, Width.store, Prog.run_note, show wordWidth.write = writeWord from rfl, run_writeWord]; rfl

/-- An interrupt entry (60_exceptions.md R436): the frame is pushed, the vector read, the handler begun. -/
theorem run_enter (n : Byte) (ip : Word) (c : Cpu) (s : State) : (enter n ip c).run s = s.entered n ip c := by
  have h4 : c.sp - 2 - 2 = c.sp - 4 := by bv_omega
  have h6 : c.sp - 4 - 2 = c.sp - 6 := by bv_omega
  unfold enter State.entered Cpu.frame
  simp only [run_push16, h4, h6, State.performs_append]
  generalize ((s.performs (wordWrites c.ss (c.sp - 2) c.flags.image)).performs (wordWrites c.ss (c.sp - 4) c.cs)).performs
    (wordWrites c.ss (c.sp - 6) ip) = t
  simp only [readVector, Prog.run_bus, State.jumps, State.performs_cons, State.performs_nil, State.readAfter, Prog.run_transfer]
  generalize hw : t.perform (.memR (vectorAddr n 0)) = w
  simp only [vectorAddr] at hw
  simp only [vectorAddr, hw]
  generalize hx : w.2.perform (.memR (BitVec.ofNat 20 (4 * n.toNat + 1))) = x
  generalize hy : x.2.perform (.memR (BitVec.ofNat 20 (4 * n.toNat + 2))) = y
  generalize y.2.perform (.memR (BitVec.ofNat 20 (4 * n.toNat + 3))) = z
  rfl

end Sys2Proof.Machine
end

