-- ==== Sys2Proof/Laws/Devices.lean ====
section
/-!
SUPPORT. What each part of a tick may do, said once: a byte access (`access_rel`), the EU phase (`euPhase_rel`), the BIU phase
(`biuPhase_mid`), the next-state selection (`nextT_sound`), the devices (`deviceTicks_dev`), and the run of a program
(`run_inv`).
-/
namespace Sys2Proof.Machine

/-- What a byte access may do: it leaves the CPU, the bus and the lines, keeps the form of memory, and starts no DMA transfer. -/
structure AccessRel (s t : State) : Prop where
  cpu : t.cpu = s.cpu
  nmi : t.nmi = s.nmi
  biu : t.biu = s.biu
  eu : t.eu = s.eu
  lines : t.lines = s.lines
  params : t.params = s.params
  inputs : t.host.inputs = s.host.inputs
  mem : Memory.wf s.params.ramSize s.mem = true → Memory.wf t.params.ramSize t.mem = true
  vbase : s.pic.vbase &&& 7 = 0 → t.pic.vbase &&& 7 = 0
  phase : t.pit.phase = s.pit.phase
  dma : t.dma.active.isSome = true → t.dma.active = s.dma.active ∧ t.dma.dticks = s.dma.dticks ∧ t.dma.blockHold = s.dma.blockHold

theorem AccessRel.refl (s : State) : AccessRel s s := ⟨rfl, rfl, rfl, rfl, rfl, rfl, rfl, id, id, rfl, fun _ => ⟨rfl, rfl, rfl⟩⟩

theorem updateChannel_active (d : Dma) (c f) : (d.updateChannel c f).active = d.active ∧ (d.updateChannel c f).dticks = d.dticks ∧ (d.updateChannel c f).blockHold = d.blockHold := by
  unfold Dma.updateChannel; split <;> exact ⟨rfl, rfl, rfl⟩

theorem dmaWrite_rel (d : Dma) (p v) : (d.write p v).active.isSome = true → (d.write p v).active = d.active ∧ (d.write p v).dticks = d.dticks ∧ (d.write p v).blockHold = d.blockHold := by
  unfold Dma.write
  simp only
  split <;> first | exact fun _ => ⟨rfl, rfl, rfl⟩ | exact fun _ => updateChannel_active .. | (intro h; exact absurd h (by simp [Dma.masterClear])) 

theorem dmaRead_rel (d : Dma) (p q f) : (d.read p q f).2.active = d.active ∧ (d.read p q f).2.dticks = d.dticks ∧ (d.read p q f).2.blockHold = d.blockHold := by
  unfold Dma.read
  split <;> exact ⟨rfl, rfl, rfl⟩

theorem writePage_rel (d : Dma) (p v) : (d.writePage p v).active = d.active ∧ (d.writePage p v).dticks = d.dticks ∧ (d.writePage p v).blockHold = d.blockHold := by
  unfold Dma.writePage
  split <;> exact ⟨rfl, rfl, rfl⟩

/-- A byte masked to its high five bits has its low three clear. -/
theorem high5_low3 (v : Byte) : v &&& 0xF8 &&& 7 = 0 := by rw [BitVec.and_assoc]; simp

theorem picOcw2_vbase (p : Pic) (v) : (p.ocw2 v).vbase = p.vbase := by
  unfold Pic.ocw2; simp only
  split <;> (try rfl) <;> split <;> rfl
theorem picOcw3_vbase (p : Pic) (v) : (p.ocw3 v).vbase = p.vbase := by
  unfold Pic.ocw3; simp only
  split <;> split <;> (try split) <;> rfl
theorem picWC_vbase (p : Pic) (v) : (p.writeCommand v).vbase = p.vbase := by
  unfold Pic.writeCommand
  split
  · rfl
  · split
    · exact picOcw3_vbase ..
    · exact picOcw2_vbase ..
theorem picWD_vbase (p : Pic) (d v) (h : p.vbase &&& 7 = 0) : (p.writeData d v).vbase &&& 7 = 0 := by
  unfold Pic.writeData
  split
  · unfold Pic.ocw1; split <;> exact h
  · exact high5_low3 v
  · exact h
  · exact h
theorem picRead_vbase (p : Pic) (d f) : (p.read d f).2.vbase = p.vbase := by
  unfold Pic.read Pic.pollRead; split
  · split <;> rfl
  · rfl

theorem answer_inputs (h : HostState) : h.answer.2.inputs = h.inputs := by
  unfold HostState.answer; split <;> rfl

/-- A read a handler of the host answers. -/
theorem extRead_rel (s : State) (e) : AccessRel s (s.extRead e).2 :=
  ⟨rfl, rfl, rfl, rfl, rfl, rfl, answer_inputs s.host, id, id, rfl, fun _ => ⟨rfl, rfl, rfl⟩⟩

/-- A write a handler of the host takes. -/
theorem extWrite_rel (s : State) (e) : AccessRel s (s.extWrite e) :=
  ⟨rfl, rfl, rfl, rfl, rfl, rfl, rfl, id, id, rfl, fun _ => ⟨rfl, rfl, rfl⟩⟩

theorem portRead_rel (s : State) (p : Word) : AccessRel s (s.portRead p).2 := by
  unfold State.portRead
  cases portDevice p with
  | dma => exact ⟨rfl, rfl, rfl, rfl, rfl, rfl, rfl, id, id, rfl, fun _ => dmaRead_rel ..⟩
  | pic => exact ⟨rfl, rfl, rfl, rfl, rfl, rfl, rfl, id, fun h => by
      show ((s.pic.read _ _).2).vbase &&& 7 = 0
      rw [picRead_vbase]; exact h, rfl, fun _ => ⟨rfl, rfl, rfl⟩⟩
  | pit => exact ⟨rfl, rfl, rfl, rfl, rfl, rfl, rfl, id, id, by
      show (s.pit.read _).2.phase = s.pit.phase
      unfold Pit.read; split <;> rfl, fun _ => ⟨rfl, rfl, rfl⟩⟩
  | ppi => exact ⟨rfl, rfl, rfl, rfl, rfl, rfl, rfl, id, id, rfl, fun _ => ⟨rfl, rfl, rfl⟩⟩
  | page => exact AccessRel.refl s
  | video => exact ⟨rfl, rfl, rfl, rfl, rfl, rfl, rfl, id, id, rfl, fun _ => ⟨rfl, rfl, rfl⟩⟩
  | none => simp only; split; exacts [extRead_rel s _, AccessRel.refl s]

theorem portWrite_rel (s : State) (p : Word) (v : Byte) : AccessRel s (s.portWrite p v) := by
  unfold State.portWrite
  cases portDevice p with
  | dma => exact ⟨rfl, rfl, rfl, rfl, rfl, rfl, rfl, id, id, rfl, fun h => dmaWrite_rel _ _ _ h⟩
  | pic => exact ⟨rfl, rfl, rfl, rfl, rfl, rfl, rfl, id, fun h => by
      show (if _ then s.pic.writeData _ v else s.pic.writeCommand v).vbase &&& 7 = 0
      split
      · exact picWD_vbase _ _ _ h
      · rw [picWC_vbase]; exact h, rfl, fun _ => ⟨rfl, rfl, rfl⟩⟩
  | pit => exact ⟨rfl, rfl, rfl, rfl, rfl, rfl, rfl, id, id, by
      show (s.pit.write _ v).phase = s.pit.phase
      unfold Pit.write Pit.writeControl; split <;> (try split) <;> rfl, fun _ => ⟨rfl, rfl, rfl⟩⟩
  | ppi => exact ⟨rfl, rfl, rfl, rfl, rfl, rfl, rfl, id, id, rfl, fun _ => ⟨rfl, rfl, rfl⟩⟩
  | page => exact ⟨rfl, rfl, rfl, rfl, rfl, rfl, rfl, id, id, rfl, fun _ => writePage_rel ..⟩
  | video => exact ⟨rfl, rfl, rfl, rfl, rfl, rfl, rfl, id, id, rfl, fun _ => ⟨rfl, rfl, rfl⟩⟩
  | none => simp only; split; exacts [extWrite_rel s _, AccessRel.refl s]

theorem poke_rel (s : State) (a v) : AccessRel s (s.poke a v) := by
  have h1 : (s.poke a v).params = s.params := by unfold State.poke; split <;> rfl
  refine ⟨?_, ?_, ?_, ?_, ?_, h1, ?_, fun h => by rw [h1]; exact Memory.wf_poke s a v h, fun h => ?_, ?_, ?_⟩
  all_goals (unfold State.poke; split)
  all_goals first | rfl | exact h | exact fun _ => ⟨rfl, rfl, rfl⟩

/-- A read of memory. -/
theorem physRead_rel (s : State) (a) : AccessRel s (s.physRead a).2 := by
  unfold State.physRead; split; exacts [extRead_rel s _, AccessRel.refl s]

/-- A write of memory. -/
theorem physWrite_rel (s : State) (a v) : AccessRel s (s.physWrite a v) := by
  unfold State.physWrite; split; exacts [extWrite_rel s _, poke_rel s a v]

/-- A byte access of any type (20_memory.md R94). -/
theorem access_rel (s : State) (r : BusReq) : AccessRel s (s.access r).2 := by
  cases r with
  | code a => exact physRead_rel s a
  | memR a => exact physRead_rel s a
  | memW a v => exact physWrite_rel s a v
  | ioR p => exact portRead_rel s p
  | ioW p v => exact portWrite_rel s p v
  | inta =>
    show AccessRel s s.intaCycle.2
    unfold State.intaCycle
    split
    · exact ⟨rfl, rfl, rfl, rfl, rfl, rfl, rfl, id, fun h => by
        show (s.pic.ackSecond).vbase &&& 7 = 0
        unfold Pic.ackSecond; (repeat' split) <;> exact h, rfl, fun _ => ⟨rfl, rfl, rfl⟩⟩
    · exact ⟨rfl, rfl, rfl, rfl, rfl, rfl, rfl, id, fun h => by
        show (s.pic.ackFirst).vbase &&& 7 = 0
        unfold Pic.ackFirst; (repeat' split) <;> exact h, rfl, fun _ => ⟨rfl, rfl, rfl⟩⟩

/-- A code fetch in progress whose byte will be kept. -/
def Biu.live (b : Biu) : Prop := ∃ x, b.cur = some x ∧ x.req.cycle = .code ∧ x.discard = false

/-- What the execution unit may do: the devices, memory and the bus label stay, the queue only shrinks, a fetch in progress only
becomes dropped, and no code fetch is requested. -/
structure CpuRel (s t : State) : Prop where
  lines : t.lines = s.lines
  params : t.params = s.params
  mem : t.mem = s.mem
  pic : t.pic = s.pic
  pit : t.pit = s.pit
  dma : t.dma = s.dma
  inputs : t.host.inputs = s.host.inputs
  label : t.biu.t = s.biu.t
  queue : t.biu.q.length ≤ s.biu.q.length
  cur : t.biu.cur.isSome = s.biu.cur.isSome
  live : t.biu.live → s.biu.live
  ticks : t.biu.ticks = s.biu.ticks
  eureq : (∀ r, s.biu.eureq = some r → r.cycle ≠ .code) → (∀ r, t.biu.eureq = some r → r.cycle ≠ .code)

theorem CpuRel.refl (s : State) : CpuRel s s := ⟨rfl, rfl, rfl, rfl, rfl, rfl, rfl, rfl, le_refl _, rfl, id, rfl, id⟩
theorem CpuRel.trans {s t u : State} (h : CpuRel s t) (k : CpuRel t u) : CpuRel s u :=
  ⟨k.lines.trans h.lines, k.params.trans h.params, k.mem.trans h.mem, k.pic.trans h.pic, k.pit.trans h.pit, k.dma.trans h.dma,
   k.inputs.trans h.inputs, k.label.trans h.label, le_trans k.queue h.queue, k.cur.trans h.cur, fun l => h.live (k.live l), k.ticks.trans h.ticks, fun l => k.eureq (h.eureq l)⟩

/-- The plain case: the queue, the cycle in progress and the request stay. -/
theorem CpuRel.of {s t : State} (h1 : t.lines = s.lines) (h2 : t.params = s.params) (h3 : t.mem = s.mem) (h4 : t.pic = s.pic) (h5 : t.pit = s.pit)
  (h6 : t.dma = s.dma) (h7 : t.host.inputs = s.host.inputs) (h8 : t.biu.t = s.biu.t) (h9 : t.biu.q = s.biu.q) (h10 : t.biu.cur = s.biu.cur) (h11 : t.biu.ticks = s.biu.ticks) (h12 : t.biu.eureq = s.biu.eureq) : CpuRel s t :=
  ⟨h1, h2, h3, h4, h5, h6, h7, h8, by rw [h9], by rw [h10], by unfold Biu.live; rw [h10]; exact id, h11, by rw [h12]; exact id⟩

theorem flush_live (b : Biu) : ¬b.flush.live := by
  rintro ⟨x, hx, hc, hd⟩
  simp only [Biu.flush, Option.map_eq_some_iff] at hx
  obtain ⟨y, hy, hxy⟩ := hx
  split at hxy
  · subst hxy; cases hd
  · subst hxy; contradiction
theorem drop_live (b : Biu) : ¬b.dropFetch.live := by
  rintro ⟨x, hx, hc, hd⟩
  simp only [Biu.dropFetch, Option.map_eq_some_iff] at hx
  obtain ⟨y, hy, hxy⟩ := hx
  split at hxy
  · subst hxy; cases hd
  · subst hxy; contradiction

theorem flush_rel (s t : State) (h1 : t.lines = s.lines) (h2 : t.params = s.params) (h3 : t.mem = s.mem) (h4 : t.pic = s.pic) (h5 : t.pit = s.pit)
  (h6 : t.dma = s.dma) (h7 : t.host.inputs = s.host.inputs) (h8 : t.biu = s.biu.flush) : CpuRel s t := by
  refine ⟨h1, h2, h3, h4, h5, h6, h7, by rw [h8]; rfl, by rw [h8]; exact Nat.zero_le _, by rw [h8]; simp [Biu.flush], fun l => ?_, by rw [h8]; rfl, by rw [h8]; exact id⟩
  rw [h8] at l; exact absurd l (flush_live _)

theorem retire_rel (s : State) (c) : CpuRel s (s.retire c) := .of rfl rfl rfl rfl rfl rfl rfl rfl rfl rfl rfl rfl
theorem transfer_rel (s : State) (c) : CpuRel s (s.transfer c) := flush_rel _ _ rfl rfl rfl rfl rfl rfl rfl rfl
theorem segEdge_rel (s : State) (o c) : CpuRel s (s.segEdge o c) := by
  unfold State.segEdge; split
  · exact flush_rel _ _ rfl rfl rfl rfl rfl rfl rfl rfl
  · exact .refl s
theorem taskEdge_rel (s : State) (o c) : CpuRel s (s.taskEdge o c) := by
  unfold State.taskEdge; split
  · exact segEdge_rel ..
  · exact .refl s
theorem atBoundary_rel (s : State) : CpuRel s s.atBoundary := .of rfl rfl rfl rfl rfl rfl rfl rfl rfl rfl rfl rfl
theorem setProg_rel (s : State) (p) : CpuRel s (s.setProg p) := .of rfl rfl rfl rfl rfl rfl rfl rfl rfl rfl rfl rfl
theorem isCode_cycle {r : BusReq} (h : r.isCode = false) : r.cycle ≠ .code := by cases r <;> simp_all [BusReq.isCode, BusReq.cycle]
theorem post_rel (s : State) (r) (h : r.isCode = false) : CpuRel s (s.post r) :=
  ⟨rfl, rfl, rfl, rfl, rfl, rfl, rfl, rfl, le_refl _, rfl, id, rfl, fun _ q hq => by cases hq; exact isCode_cycle h⟩
theorem taskProg_data (task : EuTask) (c) : (taskProg task c).dataOnly := by
  cases task with
  | instr i => exact dataOnly_progOf i c
  | entry k ip => exact dataOnly_entryProg k ip c
theorem taskRest_data (task c l level) : ((taskRest task c l).settle level).dataOnly :=
  dataOnly_settle _ _ (dataOnly_resume _ _ (taskProg_data ..))
theorem cpu_rel (s : State) (c) : CpuRel s { s with cpu := c } := .of rfl rfl rfl rfl rfl rfl rfl rfl rfl rfl rfl rfl
theorem beginGap_rel (s : State) (n) : CpuRel s (s.beginGap n) := .of rfl rfl rfl rfl rfl rfl rfl rfl rfl rfl rfl rfl
theorem beginEntry_rel (s : State) (n) : CpuRel s (s.beginEntry n) := .of rfl rfl rfl rfl rfl rfl rfl rfl rfl rfl rfl rfl
theorem goOn_rel (s : State) : CpuRel s s.goOn := .of rfl rfl rfl rfl rfl rfl rfl rfl rfl rfl rfl rfl
theorem setTask_rel (s : State) (a c l n) : CpuRel s (s.setTask a c l n) :=
  ((cpu_rel s _).trans (setProg_rel _ _)).trans (beginGap_rel _ n)
theorem beginTask_rel (s : State) (a n) : CpuRel s (s.beginTask a n) := by
  unfold State.beginTask
  have h := setTask_rel s a s.cpu [] n
  simp only
  split
  · split
    · rename_i r k hk
      exact h.trans (post_rel _ _ (by have := dataOnly_settle _ s.lines.test (taskProg_data a s.cpu); rw [hk] at this; exact this.1))
    · exact h
  · exact h
theorem interrupt_rel (s : State) (k) : CpuRel s (s.interrupt k) := by
  unfold State.interrupt; split
  · exact (atBoundary_rel s).trans (beginEntry_rel ..)
  · exact beginEntry_rel ..
/-- What the execution unit takes up at a sampling point. -/
theorem takeUp_rel (s : State) : CpuRel s s.takeUp := by
  unfold State.takeUp
  split
  · exact setProg_rel ..
  · split
    · exact (interrupt_rel ..).trans (beginTask_rel ..)
    · simp only
      split
      · exact (goOn_rel s).trans (setProg_rel ..)
      · split
        · exact (goOn_rel s).trans (beginTask_rel ..)
        · split
          · exact (goOn_rel s).trans (setProg_rel ..)
          · exact (goOn_rel s).trans (setProg_rel ..)
theorem advance_rel (s : State) (a c l) : CpuRel s (s.advance a c l) := by
  unfold State.advance
  split
  · rename_i r k hk
    exact post_rel _ _ (by have := taskRest_data a c l s.lines.test; rw [hk] at this; exact this.1)
  · exact (((retire_rel ..).trans (taskEdge_rel ..)).trans (atBoundary_rel _)).trans (takeUp_rel _)
  · exact (((transfer_rel ..).trans (taskEdge_rel ..)).trans (atBoundary_rel _)).trans (takeUp_rel _)
  · exact (cpu_rel s _).trans (takeUp_rel _)
  · exact .refl s
  · exact .refl s
theorem proceed_rel (s : State) (a c l) : CpuRel s (s.proceed a c l) := by
  unfold State.proceed
  have h := setTask_rel s a c l 0
  simp only
  split
  · exact h.trans (advance_rel ..)
  · exact h
theorem euWork_rel (s : State) : CpuRel s s.euWork := by
  unfold State.euWork
  split
  · exact .refl s
  · split
    · exact .refl s
    · rename_i b rest hq
      have h : CpuRel s (s.takeByte rest) := ⟨rfl, rfl, rfl, rfl, rfl, rfl, rfl, rfl, by rw [hq]; simp [State.takeByte], rfl, id, rfl, id⟩
      simp only
      split
      · exact h.trans (proceed_rel ..)
      · exact (h.trans (setProg_rel ..)).trans (beginGap_rel ..)
  · split
    · refine CpuRel.trans ?_ (proceed_rel ..)
      exact CpuRel.of rfl rfl rfl rfl rfl rfl rfl rfl rfl rfl rfl rfl
    · split
      · exact .refl s
      · exact advance_rel ..
theorem afterGap_rel (s : State) : CpuRel s s.afterGap := by
  unfold State.afterGap
  split
  · exact .refl s
  · exact .refl s
  · exact advance_rel ..
/-- The EU phase of a tick (50_pipeline_bus_timing.md R390). -/
theorem euPhase_rel (s : State) : CpuRel s s.euPhase := by
  unfold State.euPhase
  split
  · have h : CpuRel s { s with eu := { s.eu with wait := s.eu.wait - 1 } } := .of rfl rfl rfl rfl rfl rfl rfl rfl rfl rfl rfl rfl
    simp only
    split
    · exact h.trans (afterGap_rel _)
    · exact h
  · split
    · split
      · exact (takeUp_rel s).trans (euWork_rel _)
      · exact takeUp_rel s
    · exact euWork_rel s
    · exact euWork_rel s

/-- Soundness between the BIU phase and the next-state selection. -/
structure Mid (s : State) : Prop where
  mem : Memory.wf s.params.ramSize s.mem = true
  vbase : s.pic.vbase &&& 7 = 0
  phase : s.pit.phase < Config.pitDiv
  dma : s.dmaSound
  queue : s.biu.q.length ≤ Config.queueSize
  live : s.biu.live → s.biu.q.length < Config.queueSize
  cur : s.biu.cur.isSome = (s.biu.t.isCycle && decide (s.biu.t ≠ .t4))
  eureq : ∀ r, s.biu.eureq = some r → r.cycle ≠ .code

theorem dmaSound_congr {s t : State} (h1 : t.dma = s.dma) (h2 : t.biu.t = s.biu.t) (h3 : t.lines = s.lines) (h : s.dmaSound) : t.dmaSound := by
  unfold State.dmaSound at *; rw [h1, h2, h3]; exact h

theorem CpuRel.mid {s t : State} (h : CpuRel s t) (m : Mid s) : Mid t :=
  ⟨by rw [h.params, h.mem]; exact m.mem, by rw [h.pic]; exact m.vbase, by rw [h.pit]; exact m.phase, dmaSound_congr h.dma h.label h.lines m.dma,
   le_trans h.queue m.queue, fun l => lt_of_le_of_lt h.queue (m.live (h.live l)), by rw [h.cur, h.label]; exact m.cur, h.eureq m.eureq⟩

theorem sound_live {b : Biu} (h : b.sound) (l : b.live) : b.q.length < Config.queueSize := by
  obtain ⟨x, hx, hc, hd⟩ := l; exact h.2.1 x hx hc hd

theorem CpuRel.inv {s t : State} (h : CpuRel s t) (m : Inv s) : Inv t :=
  ⟨by rw [h.params, h.mem]; exact m.mem, ⟨le_trans h.queue m.biu.1, fun x hx hc hd => lt_of_le_of_lt h.queue (sound_live m.biu (h.live ⟨x, hx, hc, hd⟩)), by rw [h.label, h.cur]; exact m.biu.2.2.1, h.eureq m.biu.2.2.2⟩, dmaSound_congr h.dma h.label h.lines m.dma,
   by rw [h.pic]; exact m.vbase, by rw [h.pit]; exact m.phase⟩

theorem access_dmaSound {s t : State} (h : AccessRel s t) (m : s.dmaSound) : t.dmaSound := by
  intro ha
  obtain ⟨h1, h2, h3⟩ := h.dma ha
  rw [h.biu, h.lines, h2, h3]
  exact m (by rw [← h1]; exact ha)
theorem AccessRel.inv {s t : State} (h : AccessRel s t) (m : Inv s) : Inv t :=
  ⟨h.mem m.mem, by rw [h.biu]; exact m.biu, access_dmaSound h m.dma, h.vbase m.vbase, by rw [h.phase]; exact m.phase⟩

theorem log_rel (s : State) (r b k) : CpuRel s (s.log r b k) := .of rfl rfl rfl rfl rfl rfl rfl rfl rfl rfl rfl rfl
theorem perform_inv (s : State) (r) (m : Inv s) : Inv (s.perform r).2 := (log_rel ..).inv ((access_rel s r).inv m)

/-- Running a program keeps the invariant. -/
theorem run_inv (p : Prog) (s : State) (m : Inv s) : Inv (p.run s) :=
  Prog.run_keeps Inv perform_inv (fun s c h => (retire_rel s c).inv h) (fun s c h => (transfer_rel s c).inv h)
    (fun _ _ h => ⟨h.mem, h.biu, h.dma, h.vbase, h.phase⟩) p s m

/-- The BIU phase of a tick (50_pipeline_bus_timing.md R377). -/
theorem biuPhase_mid (s : State) (m : Inv s) : Mid s.biuPhase ∧ s.biuPhase.biu.t = s.biu.t ∧ s.biuPhase.lines = s.lines ∧ s.biuPhase.host.inputs = s.host.inputs ∧ s.biuPhase.params = s.params ∧ s.biuPhase.cpu = s.cpu ∧ s.biuPhase.biu.ticks = s.biu.ticks := by
  have hland : ∀ x, s.biu.cur = some x → s.biu.t ≠ .t4 → Mid (s.land x) ∧ (s.land x).biu.t = s.biu.t ∧ (s.land x).lines = s.lines ∧ (s.land x).host.inputs = s.host.inputs ∧ (s.land x).params = s.params ∧ (s.land x).cpu = s.cpu ∧ (s.land x).biu.ticks = s.biu.ticks := by
    intro x hx h4
    have a := access_rel s x.req
    have i := a.inv m
    have hbi : (s.land x).biu = { s.biu with cur := some { x with data := (s.access x.req).1, landed := true } } := by
      have hb := a.biu
      unfold State.land; simp only [hb]
    have hc := m.biu.2.2.1
    refine ⟨⟨i.mem, i.vbase, i.phase, ?_, ?_, ?_, ?_, by rw [hbi]; exact m.biu.2.2.2⟩, by rw [hbi], a.lines, a.inputs, a.params, a.cpu, by rw [hbi]⟩
    · exact dmaSound_congr (s := (s.access x.req).2) rfl rfl rfl i.dma
    · rw [hbi]; exact m.biu.1
    · rw [hbi]; rintro ⟨y, hy, h1, h2⟩
      cases hy; exact m.biu.2.1 x hx h1 h2
    · rw [hbi]; simp only [Option.isSome_some]; rw [hc, hx]; simp [h4]
  have hwait : ∀ x, s.biu.cur = some x → s.biu.t ≠ .t4 → Mid { s with biu := { s.biu with cur := some { x with waitsLeft := x.waitsLeft - 1 } } } := by
    intro x hx h4
    refine ⟨m.mem, m.vbase, m.phase, m.dma, m.biu.1, ?_, ?_, m.biu.2.2.2⟩
    · rintro ⟨y, hy, h1, h2⟩
      cases hy; exact m.biu.2.1 x hx h1 h2
    · have hc := m.biu.2.2.1
      simp only [Option.isSome_some]; rw [hc, hx]; simp [h4]
  unfold State.biuPhase
  split
  · rename_i x ht hx
    split
    · exact hland x hx (by rw [ht]; decide)
    · exact ⟨hwait x hx (by rw [ht]; decide), rfl, rfl, rfl, rfl, rfl, rfl⟩
  · rename_i x ht hx
    split
    · exact hland x hx (by rw [ht]; decide)
    · exact ⟨hwait x hx (by rw [ht]; decide), rfl, rfl, rfl, rfl, rfl, rfl⟩
  · rename_i x ht hx
    have hq : x.req.cycle = .code → x.discard = false → s.biu.q.length < Config.queueSize := m.biu.2.1 x hx
    have e1 : (s.complete x).biu.t = s.biu.t := by unfold State.complete; simp only; split <;> (try split) <;> rfl
    have e2 : (s.complete x).biu.cur = none := by unfold State.complete; simp only; split <;> (try split) <;> rfl
    have e4 : (s.complete x).biu.eureq = s.biu.eureq := by unfold State.complete; simp only; split <;> (try split) <;> rfl
    have e3 : (s.complete x).biu.q.length ≤ Config.queueSize := by
      unfold State.complete; simp only
      split
      · split
        · exact m.biu.1
        · rename_i h1 h2
          have := hq h1 (by simpa using h2)
          simp [State.log]; omega
      · exact m.biu.1
    refine ⟨⟨m.mem, m.vbase, m.phase, ?_, e3, ?_, ?_, by rw [e4]; exact m.biu.2.2.2⟩, e1, rfl, rfl, rfl, rfl, ?_⟩
    · exact dmaSound_congr (s := s) rfl e1 rfl m.dma
    · rintro ⟨y, hy, _⟩; rw [e2] at hy; cases hy
    · rw [e1, e2, ht]; rfl
    · unfold State.complete; simp only; split <;> (try split) <;> rfl
  · rename_i h3 hw h4
    refine ⟨⟨m.mem, m.vbase, m.phase, m.dma, m.biu.1, sound_live m.biu, ?_, m.biu.2.2.2⟩, rfl, rfl, rfl, rfl, rfl, rfl⟩
    have hc := m.biu.2.2.1
    rw [← hc]
    cases hx : s.biu.cur with
    | none => rw [hx] at hc; rw [hc]; simp
    | some x =>
      have : s.biu.t ≠ .t4 := fun h => h4 x h hx
      rw [hx] at hc; rw [hc]; simp [this]


/-- What follows a bus-cycle boundary without a grant is sound. -/
theorem nextCycle_sound (s : State) (m : Mid s) (hcur : s.biu.cur = none) : s.nextCycle.biu.sound := by
  unfold State.nextCycle
  split
  · rename_i r hr
    refine ⟨m.queue, ?_, rfl, nofun⟩
    intro x hx hc hd
    simp only [Biu.startCycle, Option.some.injEq] at hx
    subst hx
    exact absurd hc (m.eureq r hr)
  · rename_i hr
    split
    · rename_i h
      simp at h
      refine ⟨m.queue, fun _ _ _ _ => h.1, rfl, m.eureq⟩
    · refine ⟨m.queue, fun x hx => ?_, ?_, m.eureq⟩
      · rw [hcur] at hx; cases hx
      · show TState.isCycle .ti = s.biu.cur.isSome; rw [hcur]; rfl

/-- What the next-state selection leaves alone: everything but the bus interface unit. -/
structure KeepsAll (s t : State) : Prop where
  lines : t.lines = s.lines
  params : t.params = s.params
  mem : t.mem = s.mem
  pic : t.pic = s.pic
  pit : t.pit = s.pit
  dma : t.dma = s.dma
  host : t.host = s.host
  cpu : t.cpu = s.cpu
  ticks : t.biu.ticks = s.biu.ticks

theorem nextT_keeps (s : State) : KeepsAll s s.nextT := by
  have h1 : ∀ t, KeepsAll s (s.setT t) := fun t => ⟨rfl, rfl, rfl, rfl, rfl, rfl, rfl, rfl, rfl⟩
  have h2 : KeepsAll s s.nextCycle := by
    unfold State.nextCycle; split
    · exact ⟨rfl, rfl, rfl, rfl, rfl, rfl, rfl, rfl, rfl⟩
    · split <;> exact ⟨rfl, rfl, rfl, rfl, rfl, rfl, rfl, rfl, rfl⟩
  unfold State.nextT
  split <;> first | exact h1 _ | (split <;> first | exact h1 _ | exact h2)

/-- The next-state selection makes the bus sound again, and keeps a grant that HRQ still asks for. -/
theorem nextT_sound (s : State) (m : Mid s) : s.nextT.biu.sound ∧ (s.biu.t = .th → s.lines.hrq = true → s.nextT.biu.t = .th) := by
  have hset : ∀ t, t.isCycle = s.biu.cur.isSome → (s.setT t).biu.sound := fun t ht =>
    ⟨m.queue, fun x hx hc hd => m.live ⟨x, hx, hc, hd⟩, ht, m.eureq⟩
  have hc := m.cur
  have hnone : (s.biu.t = .t4 ∨ s.biu.t = .ti ∨ s.biu.t = .th) → s.biu.cur = none := by
    intro h; rcases h with h | h | h <;> rw [h] at hc <;> simpa [TState.isCycle] using hc
  unfold State.nextT
  split
  · rename_i h; rw [h] at hc ⊢; exact ⟨hset _ (by rw [hc]; rfl), nofun⟩
  · rename_i h; rw [h] at hc ⊢; exact ⟨hset _ (by rw [hc]; rfl), nofun⟩
  · rename_i h; rw [h] at hc ⊢; exact ⟨hset _ (by rw [hc]; split <;> rfl), nofun⟩
  · rename_i h; rw [h] at hc ⊢; exact ⟨hset _ (by rw [hc]; split <;> rfl), nofun⟩
  · rename_i h
    have hn := hnone (by simp [h])
    split
    · exact ⟨hset _ (by rw [hn]; rfl), by rw [h]; nofun⟩
    · exact ⟨nextCycle_sound s m hn, by rw [h]; nofun⟩
  · rename_i h
    have hn := hnone (by simp [h])
    split
    · exact ⟨hset _ (by rw [hn]; rfl), by rw [h]; nofun⟩
    · exact ⟨nextCycle_sound s m hn, by rw [h]; nofun⟩
  · rename_i h
    have hn := hnone (by simp [h])
    split
    · exact ⟨hset _ (by rw [hn]; rfl), fun _ _ => rfl⟩
    · rename_i h2; exact ⟨nextCycle_sound s m hn, fun _ h3 => absurd h3 h2⟩

/-- What the devices leave alone: everything of the CPU and its bus. -/
structure DevRel (s t : State) : Prop where
  cpu : t.cpu = s.cpu
  biu : t.biu = s.biu
  lines : t.lines = s.lines
  params : t.params = s.params
  inputs : t.host.inputs = s.host.inputs
  mem : Memory.wf s.params.ramSize s.mem = true → Memory.wf t.params.ramSize t.mem = true

theorem DevRel.trans {s t u : State} (h : DevRel s t) (k : DevRel t u) : DevRel s u :=
  ⟨k.cpu.trans h.cpu, k.biu.trans h.biu, k.lines.trans h.lines, k.params.trans h.params, k.inputs.trans h.inputs, fun x => k.mem (h.mem x)⟩
theorem DevRel.refl (s : State) : DevRel s s := ⟨rfl, rfl, rfl, rfl, rfl, id⟩
theorem AccessRel.dev {s t : State} (r : AccessRel s t) : DevRel s t := ⟨r.cpu, r.biu, r.lines, r.params, r.inputs, r.mem⟩

theorem dmaRead_inputs (h : HostState) (c) : (h.dmaRead c).2.inputs = h.inputs := by
  unfold HostState.dmaRead; split <;> split <;> rfl

theorem dmaCarry_dev (s : State) (c a ty) : DevRel s (s.dmaCarry c a ty) ∧ (s.dmaCarry c a ty).dma = s.dma ∧
    (s.dmaCarry c a ty).pic = s.pic ∧ (s.dmaCarry c a ty).pit = s.pit := by
  cases ty with
  | verify => exact ⟨.refl s, rfl, rfl, rfl⟩
  | write =>
    have h : DevRel s (s.dmaByte c).2 := ⟨rfl, rfl, rfl, rfl, dmaRead_inputs .., id⟩
    exact ⟨h.trans (physWrite_rel ..).dev, by simp [State.dmaCarry, State.dmaByte], by simp [State.dmaCarry, State.dmaByte],
      by simp [State.dmaCarry, State.dmaByte]⟩
  | read =>
    have h := (physRead_rel s a).dev
    exact ⟨h.trans ⟨rfl, rfl, rfl, rfl, rfl, id⟩, by simp [State.dmaCarry], by simp [State.dmaCarry], by simp [State.dmaCarry]⟩

theorem dmaMove_dev (s : State) (c) : DevRel s (s.dmaMove c) ∧ (s.dmaMove c).dma = s.dma ∧ (s.dmaMove c).pic = s.pic ∧ (s.dmaMove c).pit = s.pit := by
  unfold State.dmaMove; simp only
  split
  · exact ⟨.refl s, rfl, rfl, rfl⟩
  · split
    · obtain ⟨h1, h2, h3, h4⟩ := dmaCarry_dev s.drewDevice c (s.dma.channel c).address ((s.dma.channel c).type (Config.deviceByte s.host.draws))
      exact ⟨DevRel.trans (t := s.drewDevice) ⟨rfl, rfl, rfl, rfl, rfl, id⟩ h1, h2, h3, h4⟩
    · exact dmaCarry_dev ..

theorem advance_dma (d : Dma) (n c) : ((d.advance n c).active.isSome = true → d.blockHold = true) := by
  intro h
  by_contra hb
  have hu := (updateChannel_active d c DmaChannel.advance).2.2
  have : (d.advance n c).active = none := by
    unfold Dma.advance; simp only
    rw [if_neg]
    rw [apply_ite Dma.blockHold]; simp [hu]; simpa using hb
  rw [this] at h; cases h

/-- The soundness of the DMA controller, against the label and HRQ of the tick before. -/
def DmaOld (d : Dma) (old : TState) (hrq : Bool) : Prop :=
  d.active.isSome = true → old = .th ∧ hrq = (decide (1 < d.dticks) || d.blockHold)

theorem dmaTransfer_dev (s : State) (c) : DevRel s (s.dmaTransfer c) ∧ (s.dmaTransfer c).dma = s.dma.advance s.params.dmaCycleTicks c ∧ (s.dmaTransfer c).pic = s.pic ∧ (s.dmaTransfer c).pit = s.pit := by
  obtain ⟨h1, h2, h3, h4⟩ := dmaMove_dev s c
  unfold State.dmaTransfer; simp only
  split
  · exact ⟨DevRel.trans h1 ⟨rfl, rfl, rfl, rfl, rfl, id⟩, by show (s.dmaMove c).dma.advance _ c = _; rw [h2], h3, h4⟩
  · exact ⟨DevRel.trans h1 ⟨rfl, rfl, rfl, rfl, rfl, id⟩, by show (s.dmaMove c).dma.advance _ c = _; rw [h2], h3, h4⟩

/-- A tick of a transfer; the controller stays active only if it had ticks left or keeps the bus. -/
theorem dmaProgress_dev (s : State) (c dreq) (_ : s.dma.active = some c) : DevRel s (s.dmaProgress c dreq) ∧ (s.dmaProgress c dreq).pic = s.pic ∧ (s.dmaProgress c dreq).pit = s.pit ∧
    ((s.dmaProgress c dreq).dma.active.isSome = true → (1 < s.dma.dticks ∨ s.dma.blockHold = true)) := by
  unfold State.dmaProgress
  split
  · refine ⟨⟨rfl, rfl, rfl, rfl, rfl, id⟩, rfl, rfl, ?_⟩
    show ((s.dma.cascadeTick c dreq).active.isSome = true → _)
    unfold Dma.cascadeTick
    split
    · rename_i h; exact fun _ => .inl h
    · intro h; cases h
  · split
    · obtain ⟨h1, h2, h3, h4⟩ := dmaTransfer_dev s c
      refine ⟨h1, h3, h4, ?_⟩
      rw [h2]; intro h; exact .inr (advance_dma _ _ _ h)
    · split
      · rename_i h; exact ⟨⟨rfl, rfl, rfl, rfl, rfl, id⟩, rfl, rfl, fun _ => .inl (by omega)⟩
      · rename_i h1 h; exact ⟨⟨rfl, rfl, rfl, rfl, rfl, id⟩, rfl, rfl, fun _ => .inl (by omega)⟩

/-- The DMA controller's step of a tick: after it a transfer is in progress only in a granted tick with HRQ standing. -/
theorem dmaTick_dev (s : State) (hlda : Bool) (old : TState) (hl : hlda = decide (old = .th)) (hd : DmaOld s.dma old s.lines.hrq) :
    DevRel s (s.dmaTick hlda) ∧ (s.dmaTick hlda).pic = s.pic ∧ (s.dmaTick hlda).pit = s.pit ∧
      ((s.dmaTick hlda).dma.active.isSome = true → old = .th ∧ s.lines.hrq = true) := by
  unfold State.dmaTick
  have hD : DmaOld { s.dma.refreshLatch s.pit.c1.outv with tcPulse := false } old s.lines.hrq := hd
  generalize hdd : ({ s.dma.refreshLatch s.pit.c1.outv with tcPulse := false } : Dma) = d at hD
  have h0 : DevRel s { s with dma := d } := ⟨rfl, rfl, rfl, rfl, rfl, id⟩
  show DevRel s (match d.active with
    | some c => if hlda then ({ s with dma := d } : State).dmaProgress c (d.dreqIn s.lines.dreq) else { s with dma := d }
    | none => match d.pending (d.dreqIn s.lines.dreq) with
      | some c => if hlda && s.lines.hrq && !d.cmd.getLsbD 2 then ({ s with dma := d.start s.params.dmaCycleTicks c } : State).dmaProgress c (d.dreqIn s.lines.dreq) else { s with dma := d }
      | none => { s with dma := d }) ∧ State.pic (match d.active with
    | some c => if hlda then ({ s with dma := d } : State).dmaProgress c (d.dreqIn s.lines.dreq) else { s with dma := d }
    | none => match d.pending (d.dreqIn s.lines.dreq) with
      | some c => if hlda && s.lines.hrq && !d.cmd.getLsbD 2 then ({ s with dma := d.start s.params.dmaCycleTicks c } : State).dmaProgress c (d.dreqIn s.lines.dreq) else { s with dma := d }
      | none => { s with dma := d }) = s.pic ∧ State.pit (match d.active with
    | some c => if hlda then ({ s with dma := d } : State).dmaProgress c (d.dreqIn s.lines.dreq) else { s with dma := d }
    | none => match d.pending (d.dreqIn s.lines.dreq) with
      | some c => if hlda && s.lines.hrq && !d.cmd.getLsbD 2 then ({ s with dma := d.start s.params.dmaCycleTicks c } : State).dmaProgress c (d.dreqIn s.lines.dreq) else { s with dma := d }
      | none => { s with dma := d }) = s.pit ∧ ((State.dma (match d.active with
    | some c => if hlda then ({ s with dma := d } : State).dmaProgress c (d.dreqIn s.lines.dreq) else { s with dma := d }
    | none => match d.pending (d.dreqIn s.lines.dreq) with
      | some c => if hlda && s.lines.hrq && !d.cmd.getLsbD 2 then ({ s with dma := d.start s.params.dmaCycleTicks c } : State).dmaProgress c (d.dreqIn s.lines.dreq) else { s with dma := d }
      | none => { s with dma := d })).active.isSome = true → _)
  split
  · rename_i c hc
    have ha : d.active.isSome = true := by rw [hc]; rfl
    obtain ⟨o1, o2⟩ := hD ha
    rw [hl, o1]
    simp only [decide_true, if_true]
    obtain ⟨p1, p2, p3, p4⟩ := dmaProgress_dev { s with dma := d } c (d.dreqIn s.lines.dreq) hc
    refine ⟨h0.trans p1, p2, p3, fun h => ⟨by trivial, ?_⟩⟩
    rw [o2]; rcases p4 h with q | q <;> simp only [Bool.or_eq_true, decide_eq_true_eq]
    · exact .inl q
    · exact .inr q
  · rename_i hn
    have hno : ({ s with dma := d } : State).dma.active.isSome = true → False := by
      intro h; rw [show ({ s with dma := d } : State).dma.active = none from hn] at h; cases h
    split
    · rename_i c _
      split
      · rename_i hh
        simp only [Bool.and_eq_true] at hh
        obtain ⟨p1, p2, p3, p4⟩ := dmaProgress_dev { s with dma := d.start s.params.dmaCycleTicks c } c (d.dreqIn s.lines.dreq) rfl
        refine ⟨DevRel.trans (t := { s with dma := d.start s.params.dmaCycleTicks c }) ⟨rfl, rfl, rfl, rfl, rfl, id⟩ p1, p2, p3, fun _ => ⟨?_, hh.1.2⟩⟩
        have := hh.1.1; rw [hl] at this; simpa using this
      · exact ⟨h0, rfl, rfl, fun h => (hno h).elim⟩
    · exact ⟨h0, rfl, rfl, fun h => (hno h).elim⟩

theorem charClock_dev (s : State) : DevRel s s.characterClock ∧ s.characterClock.dma = s.dma ∧ s.characterClock.pic = s.pic ∧ s.characterClock.pit = s.pit :=
  ⟨⟨rfl, rfl, rfl, rfl, rfl, id⟩, rfl, rfl, rfl⟩
theorem dotClock_dev (s : State) : DevRel s s.dotClock ∧ s.dotClock.dma = s.dma ∧ s.dotClock.pic = s.pic ∧ s.dotClock.pit = s.pit := by
  unfold State.dotClock; simp only
  split <;> exact ⟨⟨rfl, rfl, rfl, rfl, rfl, id⟩, rfl, rfl, rfl⟩
theorem videoTick_dev (s : State) : DevRel s s.videoTick ∧ s.videoTick.dma = s.dma ∧ s.videoTick.pic = s.pic ∧ s.videoTick.pit = s.pit := by
  unfold State.videoTick; simp only
  split
  · exact ⟨⟨rfl, rfl, rfl, rfl, rfl, id⟩, rfl, rfl, rfl⟩
  · split
    · obtain ⟨a1, a2, a3, a4⟩ := dotClock_dev s
      obtain ⟨b1, b2, b3, b4⟩ := dotClock_dev s.dotClock
      obtain ⟨c1, c2, c3, c4⟩ := dotClock_dev s.dotClock.dotClock
      exact ⟨(a1.trans b1).trans c1, c2.trans (b2.trans a2), c3.trans (b3.trans a3), c4.trans (b4.trans a4)⟩
    · split <;> exact ⟨⟨rfl, rfl, rfl, rfl, rfl, id⟩, rfl, rfl, rfl⟩

theorem pitTick_phase (p : Pit) (g d) : (p.tick g d).phase < Config.pitDiv := by
  unfold Pit.tick; simp only; split <;> exact Nat.mod_lt _ (by decide)

/-- The devices' steps of a tick. -/
theorem deviceTicks_dev (s : State) (hlda : Bool) (old : TState) (hl : hlda = decide (old = .th)) (hd : DmaOld s.dma old s.lines.hrq) :
    DevRel s (s.deviceTicks hlda) ∧ (s.deviceTicks hlda).pic.vbase = s.pic.vbase ∧ (s.deviceTicks hlda).pit.phase < Config.pitDiv ∧
      ((s.deviceTicks hlda).dma.active.isSome = true → old = .th ∧ s.lines.hrq = true) := by
  unfold State.deviceTicks; simp only
  obtain ⟨p1, p2, p3, p4⟩ := dmaTick_dev { s with
    pit := s.pit.tick s.lines.gate s.host.draws
    pic := s.pic.tick (putBit s.lines.irq 0 (s.pit.tick s.lines.gate s.host.draws).c0.outv)
    host := { s.host with draws := s.host.draws + (if s.pit.timerTickDue then 3 else 0) } } hlda old hl hd
  obtain ⟨v1, v2, v3, v4⟩ := videoTick_dev { (State.dmaTick { s with
    pit := s.pit.tick s.lines.gate s.host.draws
    pic := s.pic.tick (putBit s.lines.irq 0 (s.pit.tick s.lines.gate s.host.draws).c0.outv)
    host := { s.host with draws := s.host.draws + (if s.pit.timerTickDue then 3 else 0) } } hlda) with ppi := (State.dmaTick { s with
    pit := s.pit.tick s.lines.gate s.host.draws
    pic := s.pic.tick (putBit s.lines.irq 0 (s.pit.tick s.lines.gate s.host.draws).c0.outv)
    host := { s.host with draws := s.host.draws + (if s.pit.timerTickDue then 3 else 0) } } hlda).ppi.tick }
  refine ⟨?_, ?_, ?_, ?_⟩
  · refine DevRel.trans ?_ v1
    exact ⟨p1.cpu, p1.biu, p1.lines, p1.params, p1.inputs, p1.mem⟩
  · rw [v3]; exact (congrArg Pic.vbase p2 : _)
  · rw [v4]; show (State.pit _).phase < _; rw [p3]; exact pitTick_phase ..
  · rw [v2]; exact p4

end Sys2Proof.Machine
end

