-- ==== Sys2Proof/Laws/PerInstr.lean ====
section
/-!
SUPPORT. What holds of every instruction as syntax, one lemma per constructor: its encoding has between one and six bytes
(30_encoding.md R120, R129).
-/
namespace Sys2Proof.Laws.Length

/-- At least one byte and at most `longestInstr`. -/
def Sized (bs : List Byte) : Prop := 1 ≤ bs.length ∧ bs.length ≤ longestInstr

/-- The encoding of an instruction has a legal length. -/
def Statement (i : Instr) : Prop := Sized (encode i)

/-- The ModRM byte and its displacement are one to three bytes (30_encoding.md R125). -/
theorem modRM_length (reg : Oct) (rm : RM Oct) : 1 ≤ (modRM reg rm).length ∧ (modRM reg rm).length ≤ 3 := by
  rcases rm with r | m
  · simp [modRM]
  · cases m <;> simp [modRM, wordBytes]

theorem sized_one (b : Byte) : Sized [b] := by simp [Sized, longestInstr]

theorem sized_two (b c : Byte) : Sized [b, c] := by simp [Sized, longestInstr]

theorem sized_word (b : Byte) (w : Word) : Sized (b :: wordBytes w) := by simp [Sized, longestInstr, wordBytes]

theorem sized_far (b : Byte) (o s : Word) : Sized (b :: (wordBytes o ++ wordBytes s)) := by
  simp [Sized, longestInstr, wordBytes]

theorem sized_modRM (b : Byte) (g : Oct) (e : RM Oct) : Sized (b :: modRM g e) := by
  have h := modRM_length g e
  simp only [Sized, longestInstr, List.length_cons]
  omega

theorem sized_modRM_byte (b c : Byte) (g : Oct) (e : RM Oct) : Sized (b :: (modRM g e ++ [c])) := by
  have h := modRM_length g e
  simp only [Sized, longestInstr, List.length_cons, List.length_append, List.length_nil]
  omega

theorem sized_modRM_word (b : Byte) (w : Word) (g : Oct) (e : RM Oct) : Sized (b :: (modRM g e ++ wordBytes w)) := by
  have h := modRM_length g e
  simp only [Sized, longestInstr, List.length_cons, List.length_append, List.length_nil, wordBytes]
  omega

theorem addEbGb (rm : RM8) (reg : Reg8) : Statement (.addEbGb rm reg) := sized_modRM _ _ _
theorem addEvGv (rm : RM16) (reg : Reg16) : Statement (.addEvGv rm reg) := sized_modRM _ _ _
theorem addGbEb (reg : Reg8) (rm : RM8) : Statement (.addGbEb reg rm) := sized_modRM _ _ _
theorem addGvEv (reg : Reg16) (rm : RM16) : Statement (.addGvEv reg rm) := sized_modRM _ _ _
theorem addALIb (imm : Byte) : Statement (.addALIb imm) := sized_two _ _
theorem addAXIv (imm : Word) : Statement (.addAXIv imm) := sized_word _ _
theorem orEbGb (rm : RM8) (reg : Reg8) : Statement (.orEbGb rm reg) := sized_modRM _ _ _
theorem orEvGv (rm : RM16) (reg : Reg16) : Statement (.orEvGv rm reg) := sized_modRM _ _ _
theorem orGbEb (reg : Reg8) (rm : RM8) : Statement (.orGbEb reg rm) := sized_modRM _ _ _
theorem orGvEv (reg : Reg16) (rm : RM16) : Statement (.orGvEv reg rm) := sized_modRM _ _ _
theorem orALIb (imm : Byte) : Statement (.orALIb imm) := sized_two _ _
theorem orAXIv (imm : Word) : Statement (.orAXIv imm) := sized_word _ _
theorem adcEbGb (rm : RM8) (reg : Reg8) : Statement (.adcEbGb rm reg) := sized_modRM _ _ _
theorem adcEvGv (rm : RM16) (reg : Reg16) : Statement (.adcEvGv rm reg) := sized_modRM _ _ _
theorem adcGbEb (reg : Reg8) (rm : RM8) : Statement (.adcGbEb reg rm) := sized_modRM _ _ _
theorem adcGvEv (reg : Reg16) (rm : RM16) : Statement (.adcGvEv reg rm) := sized_modRM _ _ _
theorem adcALIb (imm : Byte) : Statement (.adcALIb imm) := sized_two _ _
theorem adcAXIv (imm : Word) : Statement (.adcAXIv imm) := sized_word _ _
theorem sbbEbGb (rm : RM8) (reg : Reg8) : Statement (.sbbEbGb rm reg) := sized_modRM _ _ _
theorem sbbEvGv (rm : RM16) (reg : Reg16) : Statement (.sbbEvGv rm reg) := sized_modRM _ _ _
theorem sbbGbEb (reg : Reg8) (rm : RM8) : Statement (.sbbGbEb reg rm) := sized_modRM _ _ _
theorem sbbGvEv (reg : Reg16) (rm : RM16) : Statement (.sbbGvEv reg rm) := sized_modRM _ _ _
theorem sbbALIb (imm : Byte) : Statement (.sbbALIb imm) := sized_two _ _
theorem sbbAXIv (imm : Word) : Statement (.sbbAXIv imm) := sized_word _ _
theorem andEbGb (rm : RM8) (reg : Reg8) : Statement (.andEbGb rm reg) := sized_modRM _ _ _
theorem andEvGv (rm : RM16) (reg : Reg16) : Statement (.andEvGv rm reg) := sized_modRM _ _ _
theorem andGbEb (reg : Reg8) (rm : RM8) : Statement (.andGbEb reg rm) := sized_modRM _ _ _
theorem andGvEv (reg : Reg16) (rm : RM16) : Statement (.andGvEv reg rm) := sized_modRM _ _ _
theorem andALIb (imm : Byte) : Statement (.andALIb imm) := sized_two _ _
theorem andAXIv (imm : Word) : Statement (.andAXIv imm) := sized_word _ _
theorem subEbGb (rm : RM8) (reg : Reg8) : Statement (.subEbGb rm reg) := sized_modRM _ _ _
theorem subEvGv (rm : RM16) (reg : Reg16) : Statement (.subEvGv rm reg) := sized_modRM _ _ _
theorem subGbEb (reg : Reg8) (rm : RM8) : Statement (.subGbEb reg rm) := sized_modRM _ _ _
theorem subGvEv (reg : Reg16) (rm : RM16) : Statement (.subGvEv reg rm) := sized_modRM _ _ _
theorem subALIb (imm : Byte) : Statement (.subALIb imm) := sized_two _ _
theorem subAXIv (imm : Word) : Statement (.subAXIv imm) := sized_word _ _
theorem xorEbGb (rm : RM8) (reg : Reg8) : Statement (.xorEbGb rm reg) := sized_modRM _ _ _
theorem xorEvGv (rm : RM16) (reg : Reg16) : Statement (.xorEvGv rm reg) := sized_modRM _ _ _
theorem xorGbEb (reg : Reg8) (rm : RM8) : Statement (.xorGbEb reg rm) := sized_modRM _ _ _
theorem xorGvEv (reg : Reg16) (rm : RM16) : Statement (.xorGvEv reg rm) := sized_modRM _ _ _
theorem xorALIb (imm : Byte) : Statement (.xorALIb imm) := sized_two _ _
theorem xorAXIv (imm : Word) : Statement (.xorAXIv imm) := sized_word _ _
theorem cmpEbGb (rm : RM8) (reg : Reg8) : Statement (.cmpEbGb rm reg) := sized_modRM _ _ _
theorem cmpEvGv (rm : RM16) (reg : Reg16) : Statement (.cmpEvGv rm reg) := sized_modRM _ _ _
theorem cmpGbEb (reg : Reg8) (rm : RM8) : Statement (.cmpGbEb reg rm) := sized_modRM _ _ _
theorem cmpGvEv (reg : Reg16) (rm : RM16) : Statement (.cmpGvEv reg rm) := sized_modRM _ _ _
theorem cmpALIb (imm : Byte) : Statement (.cmpALIb imm) := sized_two _ _
theorem cmpAXIv (imm : Word) : Statement (.cmpAXIv imm) := sized_word _ _
theorem incReg16 (r : Reg16) : Statement (.incReg16 r) := sized_one _
theorem decReg16 (r : Reg16) : Statement (.decReg16 r) := sized_one _
theorem pushReg16 (r : Reg16) : Statement (.pushReg16 r) := sized_one _
theorem popReg16 (r : Reg16) : Statement (.popReg16 r) := sized_one _
theorem jcc60 (cc : Cond) (disp : Byte) : Statement (.jcc60 cc disp) := sized_two _ _
theorem jcc (cc : Cond) (disp : Byte) : Statement (.jcc cc disp) := sized_two _ _
theorem addEbIb (rm : RM8) (imm : Byte) : Statement (.addEbIb rm imm) := sized_modRM_byte _ _ _ _
theorem orEbIb (rm : RM8) (imm : Byte) : Statement (.orEbIb rm imm) := sized_modRM_byte _ _ _ _
theorem adcEbIb (rm : RM8) (imm : Byte) : Statement (.adcEbIb rm imm) := sized_modRM_byte _ _ _ _
theorem sbbEbIb (rm : RM8) (imm : Byte) : Statement (.sbbEbIb rm imm) := sized_modRM_byte _ _ _ _
theorem andEbIb (rm : RM8) (imm : Byte) : Statement (.andEbIb rm imm) := sized_modRM_byte _ _ _ _
theorem subEbIb (rm : RM8) (imm : Byte) : Statement (.subEbIb rm imm) := sized_modRM_byte _ _ _ _
theorem xorEbIb (rm : RM8) (imm : Byte) : Statement (.xorEbIb rm imm) := sized_modRM_byte _ _ _ _
theorem cmpEbIb (rm : RM8) (imm : Byte) : Statement (.cmpEbIb rm imm) := sized_modRM_byte _ _ _ _
theorem addEvIv (rm : RM16) (imm : Word) : Statement (.addEvIv rm imm) := sized_modRM_word _ _ _ _
theorem orEvIv (rm : RM16) (imm : Word) : Statement (.orEvIv rm imm) := sized_modRM_word _ _ _ _
theorem adcEvIv (rm : RM16) (imm : Word) : Statement (.adcEvIv rm imm) := sized_modRM_word _ _ _ _
theorem sbbEvIv (rm : RM16) (imm : Word) : Statement (.sbbEvIv rm imm) := sized_modRM_word _ _ _ _
theorem andEvIv (rm : RM16) (imm : Word) : Statement (.andEvIv rm imm) := sized_modRM_word _ _ _ _
theorem subEvIv (rm : RM16) (imm : Word) : Statement (.subEvIv rm imm) := sized_modRM_word _ _ _ _
theorem xorEvIv (rm : RM16) (imm : Word) : Statement (.xorEvIv rm imm) := sized_modRM_word _ _ _ _
theorem cmpEvIv (rm : RM16) (imm : Word) : Statement (.cmpEvIv rm imm) := sized_modRM_word _ _ _ _
theorem addEbIb82 (rm : RM8) (imm : Byte) : Statement (.addEbIb82 rm imm) := sized_modRM_byte _ _ _ _
theorem orEbIb82 (rm : RM8) (imm : Byte) : Statement (.orEbIb82 rm imm) := sized_modRM_byte _ _ _ _
theorem adcEbIb82 (rm : RM8) (imm : Byte) : Statement (.adcEbIb82 rm imm) := sized_modRM_byte _ _ _ _
theorem sbbEbIb82 (rm : RM8) (imm : Byte) : Statement (.sbbEbIb82 rm imm) := sized_modRM_byte _ _ _ _
theorem andEbIb82 (rm : RM8) (imm : Byte) : Statement (.andEbIb82 rm imm) := sized_modRM_byte _ _ _ _
theorem subEbIb82 (rm : RM8) (imm : Byte) : Statement (.subEbIb82 rm imm) := sized_modRM_byte _ _ _ _
theorem xorEbIb82 (rm : RM8) (imm : Byte) : Statement (.xorEbIb82 rm imm) := sized_modRM_byte _ _ _ _
theorem cmpEbIb82 (rm : RM8) (imm : Byte) : Statement (.cmpEbIb82 rm imm) := sized_modRM_byte _ _ _ _
theorem addEvIbs (rm : RM16) (imm : Byte) : Statement (.addEvIbs rm imm) := sized_modRM_byte _ _ _ _
theorem orEvIbs (rm : RM16) (imm : Byte) : Statement (.orEvIbs rm imm) := sized_modRM_byte _ _ _ _
theorem adcEvIbs (rm : RM16) (imm : Byte) : Statement (.adcEvIbs rm imm) := sized_modRM_byte _ _ _ _
theorem sbbEvIbs (rm : RM16) (imm : Byte) : Statement (.sbbEvIbs rm imm) := sized_modRM_byte _ _ _ _
theorem andEvIbs (rm : RM16) (imm : Byte) : Statement (.andEvIbs rm imm) := sized_modRM_byte _ _ _ _
theorem subEvIbs (rm : RM16) (imm : Byte) : Statement (.subEvIbs rm imm) := sized_modRM_byte _ _ _ _
theorem xorEvIbs (rm : RM16) (imm : Byte) : Statement (.xorEvIbs rm imm) := sized_modRM_byte _ _ _ _
theorem cmpEvIbs (rm : RM16) (imm : Byte) : Statement (.cmpEvIbs rm imm) := sized_modRM_byte _ _ _ _
theorem testEbGb (rm : RM8) (reg : Reg8) : Statement (.testEbGb rm reg) := sized_modRM _ _ _
theorem testEvGv (rm : RM16) (reg : Reg16) : Statement (.testEvGv rm reg) := sized_modRM _ _ _
theorem xchgEbGb (rm : RM8) (reg : Reg8) : Statement (.xchgEbGb rm reg) := sized_modRM _ _ _
theorem xchgEvGv (rm : RM16) (reg : Reg16) : Statement (.xchgEvGv rm reg) := sized_modRM _ _ _
theorem movEbGb (rm : RM8) (reg : Reg8) : Statement (.movEbGb rm reg) := sized_modRM _ _ _
theorem movEvGv (rm : RM16) (reg : Reg16) : Statement (.movEvGv rm reg) := sized_modRM _ _ _
theorem movGbEb (reg : Reg8) (rm : RM8) : Statement (.movGbEb reg rm) := sized_modRM _ _ _
theorem movGvEv (reg : Reg16) (rm : RM16) : Statement (.movGvEv reg rm) := sized_modRM _ _ _
theorem movEwSw (rm : RM16) (sr : SReg) : Statement (.movEwSw rm sr) := sized_modRM _ _ _
theorem movEwSwHi (rm : RM16) (sr : SReg) : Statement (.movEwSwHi rm sr) := sized_modRM _ _ _
theorem lea (reg : Reg16) (m : Mem) : Statement (.lea reg m) := sized_modRM _ _ _
theorem undefLea (reg : Reg16) (rm : Reg16) : Statement (.undefLea reg rm) := sized_modRM _ _ _
theorem movSwEw (sr : SReg) (rm : RM16) : Statement (.movSwEw sr rm) := sized_modRM _ _ _
theorem movSwEwHi (sr : SReg) (rm : RM16) : Statement (.movSwEwHi sr rm) := sized_modRM _ _ _
theorem popEv (rm : RM16) : Statement (.popEv rm) := sized_modRM _ _ _
theorem undef8F1 (rm : RM16) : Statement (.undef8F1 rm) := sized_modRM _ _ _
theorem undef8F2 (rm : RM16) : Statement (.undef8F2 rm) := sized_modRM _ _ _
theorem undef8F3 (rm : RM16) : Statement (.undef8F3 rm) := sized_modRM _ _ _
theorem undef8F4 (rm : RM16) : Statement (.undef8F4 rm) := sized_modRM _ _ _
theorem undef8F5 (rm : RM16) : Statement (.undef8F5 rm) := sized_modRM _ _ _
theorem undef8F6 (rm : RM16) : Statement (.undef8F6 rm) := sized_modRM _ _ _
theorem undef8F7 (rm : RM16) : Statement (.undef8F7 rm) := sized_modRM _ _ _
theorem callAp (off : Word) (seg : Word) : Statement (.callAp off seg) := sized_far _ _ _
theorem movALOb (off : Word) : Statement (.movALOb off) := sized_word _ _
theorem movAXOv (off : Word) : Statement (.movAXOv off) := sized_word _ _
theorem movObAL (off : Word) : Statement (.movObAL off) := sized_word _ _
theorem movOvAX (off : Word) : Statement (.movOvAX off) := sized_word _ _
theorem testALIb (imm : Byte) : Statement (.testALIb imm) := sized_two _ _
theorem testAXIv (imm : Word) : Statement (.testAXIv imm) := sized_word _ _
theorem movReg8Ib (r : Reg8) (imm : Byte) : Statement (.movReg8Ib r imm) := sized_two _ _
theorem movReg16Iv (r : Reg16) (imm : Word) : Statement (.movReg16Iv r imm) := sized_word _ _
theorem retIwC0 (imm : Word) : Statement (.retIwC0 imm) := sized_word _ _
theorem retIw (imm : Word) : Statement (.retIw imm) := sized_word _ _
theorem les (reg : Reg16) (m : Mem) : Statement (.les reg m) := sized_modRM _ _ _
theorem undefLes (reg : Reg16) (rm : Reg16) : Statement (.undefLes reg rm) := sized_modRM _ _ _
theorem lds (reg : Reg16) (m : Mem) : Statement (.lds reg m) := sized_modRM _ _ _
theorem undefLds (reg : Reg16) (rm : Reg16) : Statement (.undefLds reg rm) := sized_modRM _ _ _
theorem movEbIb (rm : RM8) (imm : Byte) : Statement (.movEbIb rm imm) := sized_modRM_byte _ _ _ _
theorem undefC61 (rm : RM8) (imm : Byte) : Statement (.undefC61 rm imm) := sized_modRM_byte _ _ _ _
theorem undefC62 (rm : RM8) (imm : Byte) : Statement (.undefC62 rm imm) := sized_modRM_byte _ _ _ _
theorem undefC63 (rm : RM8) (imm : Byte) : Statement (.undefC63 rm imm) := sized_modRM_byte _ _ _ _
theorem undefC64 (rm : RM8) (imm : Byte) : Statement (.undefC64 rm imm) := sized_modRM_byte _ _ _ _
theorem undefC65 (rm : RM8) (imm : Byte) : Statement (.undefC65 rm imm) := sized_modRM_byte _ _ _ _
theorem undefC66 (rm : RM8) (imm : Byte) : Statement (.undefC66 rm imm) := sized_modRM_byte _ _ _ _
theorem undefC67 (rm : RM8) (imm : Byte) : Statement (.undefC67 rm imm) := sized_modRM_byte _ _ _ _
theorem movEvIv (rm : RM16) (imm : Word) : Statement (.movEvIv rm imm) := sized_modRM_word _ _ _ _
theorem undefC71 (rm : RM16) (imm : Word) : Statement (.undefC71 rm imm) := sized_modRM_word _ _ _ _
theorem undefC72 (rm : RM16) (imm : Word) : Statement (.undefC72 rm imm) := sized_modRM_word _ _ _ _
theorem undefC73 (rm : RM16) (imm : Word) : Statement (.undefC73 rm imm) := sized_modRM_word _ _ _ _
theorem undefC74 (rm : RM16) (imm : Word) : Statement (.undefC74 rm imm) := sized_modRM_word _ _ _ _
theorem undefC75 (rm : RM16) (imm : Word) : Statement (.undefC75 rm imm) := sized_modRM_word _ _ _ _
theorem undefC76 (rm : RM16) (imm : Word) : Statement (.undefC76 rm imm) := sized_modRM_word _ _ _ _
theorem undefC77 (rm : RM16) (imm : Word) : Statement (.undefC77 rm imm) := sized_modRM_word _ _ _ _
theorem retfIwC8 (imm : Word) : Statement (.retfIwC8 imm) := sized_word _ _
theorem retfIw (imm : Word) : Statement (.retfIw imm) := sized_word _ _
theorem intIb (imm : Byte) : Statement (.intIb imm) := sized_two _ _
theorem rolEb1 (rm : RM8) : Statement (.rolEb1 rm) := sized_modRM _ _ _
theorem rorEb1 (rm : RM8) : Statement (.rorEb1 rm) := sized_modRM _ _ _
theorem rclEb1 (rm : RM8) : Statement (.rclEb1 rm) := sized_modRM _ _ _
theorem rcrEb1 (rm : RM8) : Statement (.rcrEb1 rm) := sized_modRM _ _ _
theorem shlEb1 (rm : RM8) : Statement (.shlEb1 rm) := sized_modRM _ _ _
theorem shrEb1 (rm : RM8) : Statement (.shrEb1 rm) := sized_modRM _ _ _
theorem undefD06 (rm : RM8) : Statement (.undefD06 rm) := sized_modRM _ _ _
theorem sarEb1 (rm : RM8) : Statement (.sarEb1 rm) := sized_modRM _ _ _
theorem rolEv1 (rm : RM16) : Statement (.rolEv1 rm) := sized_modRM _ _ _
theorem rorEv1 (rm : RM16) : Statement (.rorEv1 rm) := sized_modRM _ _ _
theorem rclEv1 (rm : RM16) : Statement (.rclEv1 rm) := sized_modRM _ _ _
theorem rcrEv1 (rm : RM16) : Statement (.rcrEv1 rm) := sized_modRM _ _ _
theorem shlEv1 (rm : RM16) : Statement (.shlEv1 rm) := sized_modRM _ _ _
theorem shrEv1 (rm : RM16) : Statement (.shrEv1 rm) := sized_modRM _ _ _
theorem undefD16 (rm : RM16) : Statement (.undefD16 rm) := sized_modRM _ _ _
theorem sarEv1 (rm : RM16) : Statement (.sarEv1 rm) := sized_modRM _ _ _
theorem rolEbCL (rm : RM8) : Statement (.rolEbCL rm) := sized_modRM _ _ _
theorem rorEbCL (rm : RM8) : Statement (.rorEbCL rm) := sized_modRM _ _ _
theorem rclEbCL (rm : RM8) : Statement (.rclEbCL rm) := sized_modRM _ _ _
theorem rcrEbCL (rm : RM8) : Statement (.rcrEbCL rm) := sized_modRM _ _ _
theorem shlEbCL (rm : RM8) : Statement (.shlEbCL rm) := sized_modRM _ _ _
theorem shrEbCL (rm : RM8) : Statement (.shrEbCL rm) := sized_modRM _ _ _
theorem undefD26 (rm : RM8) : Statement (.undefD26 rm) := sized_modRM _ _ _
theorem sarEbCL (rm : RM8) : Statement (.sarEbCL rm) := sized_modRM _ _ _
theorem rolEvCL (rm : RM16) : Statement (.rolEvCL rm) := sized_modRM _ _ _
theorem rorEvCL (rm : RM16) : Statement (.rorEvCL rm) := sized_modRM _ _ _
theorem rclEvCL (rm : RM16) : Statement (.rclEvCL rm) := sized_modRM _ _ _
theorem rcrEvCL (rm : RM16) : Statement (.rcrEvCL rm) := sized_modRM _ _ _
theorem shlEvCL (rm : RM16) : Statement (.shlEvCL rm) := sized_modRM _ _ _
theorem shrEvCL (rm : RM16) : Statement (.shrEvCL rm) := sized_modRM _ _ _
theorem undefD36 (rm : RM16) : Statement (.undefD36 rm) := sized_modRM _ _ _
theorem sarEvCL (rm : RM16) : Statement (.sarEvCL rm) := sized_modRM _ _ _
theorem aam (imm : Byte) : Statement (.aam imm) := sized_two _ _
theorem aad (imm : Byte) : Statement (.aad imm) := sized_two _ _
theorem esc (op : Oct) (reg : Oct) (rm : RM16) : Statement (.esc op reg rm) := sized_modRM _ _ _
theorem loopne (disp : Byte) : Statement (.loopne disp) := sized_two _ _
theorem loope (disp : Byte) : Statement (.loope disp) := sized_two _ _
theorem loop (disp : Byte) : Statement (.loop disp) := sized_two _ _
theorem jcxz (disp : Byte) : Statement (.jcxz disp) := sized_two _ _
theorem inALIb (imm : Byte) : Statement (.inALIb imm) := sized_two _ _
theorem inAXIb (imm : Byte) : Statement (.inAXIb imm) := sized_two _ _
theorem outIbAL (imm : Byte) : Statement (.outIbAL imm) := sized_two _ _
theorem outIbAX (imm : Byte) : Statement (.outIbAX imm) := sized_two _ _
theorem callJv (disp : Word) : Statement (.callJv disp) := sized_word _ _
theorem jmpJv (disp : Word) : Statement (.jmpJv disp) := sized_word _ _
theorem jmpAp (off : Word) (seg : Word) : Statement (.jmpAp off seg) := sized_far _ _ _
theorem jmpJb (disp : Byte) : Statement (.jmpJb disp) := sized_two _ _
theorem testEbIb (rm : RM8) (imm : Byte) : Statement (.testEbIb rm imm) := sized_modRM_byte _ _ _ _
theorem testEbIb1 (rm : RM8) (imm : Byte) : Statement (.testEbIb1 rm imm) := sized_modRM_byte _ _ _ _
theorem notEb (rm : RM8) : Statement (.notEb rm) := sized_modRM _ _ _
theorem negEb (rm : RM8) : Statement (.negEb rm) := sized_modRM _ _ _
theorem mulEb (rm : RM8) : Statement (.mulEb rm) := sized_modRM _ _ _
theorem imulEb (rm : RM8) : Statement (.imulEb rm) := sized_modRM _ _ _
theorem divEb (rm : RM8) : Statement (.divEb rm) := sized_modRM _ _ _
theorem idivEb (rm : RM8) : Statement (.idivEb rm) := sized_modRM _ _ _
theorem testEvIv (rm : RM16) (imm : Word) : Statement (.testEvIv rm imm) := sized_modRM_word _ _ _ _
theorem testEvIv1 (rm : RM16) (imm : Word) : Statement (.testEvIv1 rm imm) := sized_modRM_word _ _ _ _
theorem notEv (rm : RM16) : Statement (.notEv rm) := sized_modRM _ _ _
theorem negEv (rm : RM16) : Statement (.negEv rm) := sized_modRM _ _ _
theorem mulEv (rm : RM16) : Statement (.mulEv rm) := sized_modRM _ _ _
theorem imulEv (rm : RM16) : Statement (.imulEv rm) := sized_modRM _ _ _
theorem divEv (rm : RM16) : Statement (.divEv rm) := sized_modRM _ _ _
theorem idivEv (rm : RM16) : Statement (.idivEv rm) := sized_modRM _ _ _
theorem incEb (rm : RM8) : Statement (.incEb rm) := sized_modRM _ _ _
theorem decEb (rm : RM8) : Statement (.decEb rm) := sized_modRM _ _ _
theorem undefFE2 (rm : RM8) : Statement (.undefFE2 rm) := sized_modRM _ _ _
theorem undefFE3 (rm : RM8) : Statement (.undefFE3 rm) := sized_modRM _ _ _
theorem undefFE4 (rm : RM8) : Statement (.undefFE4 rm) := sized_modRM _ _ _
theorem undefFE5 (rm : RM8) : Statement (.undefFE5 rm) := sized_modRM _ _ _
theorem undefFE6 (rm : RM8) : Statement (.undefFE6 rm) := sized_modRM _ _ _
theorem undefFE7 (rm : RM8) : Statement (.undefFE7 rm) := sized_modRM _ _ _
theorem incEv (rm : RM16) : Statement (.incEv rm) := sized_modRM _ _ _
theorem decEv (rm : RM16) : Statement (.decEv rm) := sized_modRM _ _ _
theorem callEv (rm : RM16) : Statement (.callEv rm) := sized_modRM _ _ _
theorem callMp (m : Mem) : Statement (.callMp m) := sized_modRM _ _ _
theorem undefFF3 (r : Reg16) : Statement (.undefFF3 r) := sized_modRM _ _ _
theorem jmpEv (rm : RM16) : Statement (.jmpEv rm) := sized_modRM _ _ _
theorem jmpMp (m : Mem) : Statement (.jmpMp m) := sized_modRM _ _ _
theorem undefFF5 (r : Reg16) : Statement (.undefFF5 r) := sized_modRM _ _ _
theorem pushEv (rm : RM16) : Statement (.pushEv rm) := sized_modRM _ _ _
theorem undefFF7 (rm : RM16) : Statement (.undefFF7 rm) := sized_modRM _ _ _
theorem pushES : Statement .pushES := sized_one _
theorem popES : Statement .popES := sized_one _
theorem segES : Statement .segES := sized_one _
theorem pushCS : Statement .pushCS := sized_one _
theorem popCS : Statement .popCS := sized_one _
theorem segCS : Statement .segCS := sized_one _
theorem pushSS : Statement .pushSS := sized_one _
theorem popSS : Statement .popSS := sized_one _
theorem segSS : Statement .segSS := sized_one _
theorem pushDS : Statement .pushDS := sized_one _
theorem popDS : Statement .popDS := sized_one _
theorem segDS : Statement .segDS := sized_one _
theorem daa : Statement .daa := sized_one _
theorem das : Statement .das := sized_one _
theorem aaa : Statement .aaa := sized_one _
theorem aas : Statement .aas := sized_one _
theorem nop : Statement .nop := sized_one _
theorem xchgAXCX : Statement .xchgAXCX := sized_one _
theorem xchgAXDX : Statement .xchgAXDX := sized_one _
theorem xchgAXBX : Statement .xchgAXBX := sized_one _
theorem xchgAXSP : Statement .xchgAXSP := sized_one _
theorem xchgAXBP : Statement .xchgAXBP := sized_one _
theorem xchgAXSI : Statement .xchgAXSI := sized_one _
theorem xchgAXDI : Statement .xchgAXDI := sized_one _
theorem cbw : Statement .cbw := sized_one _
theorem cwd : Statement .cwd := sized_one _
theorem wait : Statement .wait := sized_one _
theorem pushf : Statement .pushf := sized_one _
theorem popf : Statement .popf := sized_one _
theorem sahf : Statement .sahf := sized_one _
theorem lahf : Statement .lahf := sized_one _
theorem movsb : Statement .movsb := sized_one _
theorem movsw : Statement .movsw := sized_one _
theorem cmpsb : Statement .cmpsb := sized_one _
theorem cmpsw : Statement .cmpsw := sized_one _
theorem stosb : Statement .stosb := sized_one _
theorem stosw : Statement .stosw := sized_one _
theorem lodsb : Statement .lodsb := sized_one _
theorem lodsw : Statement .lodsw := sized_one _
theorem scasb : Statement .scasb := sized_one _
theorem scasw : Statement .scasw := sized_one _
theorem retC1 : Statement .retC1 := sized_one _
theorem ret : Statement .ret := sized_one _
theorem retfC9 : Statement .retfC9 := sized_one _
theorem retf : Statement .retf := sized_one _
theorem int3 : Statement .int3 := sized_one _
theorem into : Statement .into := sized_one _
theorem iret : Statement .iret := sized_one _
theorem salc : Statement .salc := sized_one _
theorem xlat : Statement .xlat := sized_one _
theorem inALDX : Statement .inALDX := sized_one _
theorem inAXDX : Statement .inAXDX := sized_one _
theorem outDXAL : Statement .outDXAL := sized_one _
theorem outDXAX : Statement .outDXAX := sized_one _
theorem lock : Statement .lock := sized_one _
theorem lockF1 : Statement .lockF1 := sized_one _
theorem repne : Statement .repne := sized_one _
theorem rep : Statement .rep := sized_one _
theorem hlt : Statement .hlt := sized_one _
theorem cmc : Statement .cmc := sized_one _
theorem clc : Statement .clc := sized_one _
theorem stc : Statement .stc := sized_one _
theorem cli : Statement .cli := sized_one _
theorem sti : Statement .sti := sized_one _
theorem cld : Statement .cld := sized_one _
theorem std : Statement .std := sized_one _

end Sys2Proof.Laws.Length
end

