-- ==== Sys2Proof/Laws/Stream.lean ====
section
/-!
SUPPORT. What a Level A step makes of the bytes that follow an instruction which stored to them or loaded CS (20_memory.md R108;
40_data_transfer.md R171, R176): which bytes those are, how far the queue then reaches, and what it holds.
-/
namespace Sys2Proof.Machine

/-- A byte ahead counts as stored to exactly if it is one of the bytes that follow, is no ROM, and a write of the step shows it. -/
theorem State.storesAhead_iff (s t : State) (j : Nat) :
    s.storesAhead t j = true ↔ j < Config.queueSize ∧ backing s.params.ramSize (s.aheadAddr j) ≠ .rom ∧
      ∃ r ∈ t.biu.trace.drop s.biu.trace.length, r.cycle = .memW ∧ ∃ a, r.addr = some a ∧ sameByte a (s.aheadAddr j) := by
  unfold State.storesAhead State.storedSince sameByte
  simp only [Bool.and_eq_true, decide_eq_true_eq, List.any_eq_true, List.mem_filterMap, and_assoc]
  refine and_congr_right fun _ => and_congr_right fun _ => ⟨?_, ?_⟩
  · rintro ⟨a, ⟨r, hr, h⟩, hk⟩
    split at h
    · exact ⟨r, hr, ‹_›, a, h, hk⟩
    · cases h
  · rintro ⟨r, hr, hc, a, ha, hk⟩
    exact ⟨a, ⟨r, hr, by simp [hc, ha]⟩, hk⟩

/-- A byte ahead is not determined exactly if it was stored to, or CS was loaded and it is one of the bytes that follow. -/
theorem State.unsettled_iff (s t : State) (j : Nat) :
    s.unsettled t j = true ↔ s.storesAhead t j = true ∨ (j < Config.queueSize ∧ t.cpu.cs ≠ s.cpu.cs) := by
  simp [State.unsettled]

/-- Only the bytes that follow can be undetermined. -/
theorem State.unsettled_lt {s t : State} {j : Nat} (h : s.unsettled t j = true) : j < Config.queueSize := by
  rcases (s.unsettled_iff t j).1 h with h | h
  · exact ((s.storesAhead_iff t j).1 h).1
  · exact h.1

/-- The queue reaches past every byte ahead that is not determined. -/
theorem State.lt_aheadDepth {s t : State} {j : Nat} (h : s.unsettled t j = true) : j < s.aheadDepth t := by
  have hj : j < 4 := State.unsettled_lt h
  unfold State.aheadDepth
  rw [show List.range Config.queueSize = [0, 1, 2, 3] from rfl]
  obtain rfl | rfl | rfl | rfl : j = 0 ∨ j = 1 ∨ j = 2 ∨ j = 3 := by omega
  all_goals
    cases h0 : s.unsettled t 0 <;> cases h1 : s.unsettled t 1 <;> cases h2 : s.unsettled t 2 <;>
      cases h3 : s.unsettled t 3 <;> simp_all

/-- No more bytes are settled than the queue holds. -/
theorem State.aheadDepth_le (s t : State) : s.aheadDepth t ≤ Config.queueSize := by
  unfold State.aheadDepth
  cases h : ((List.range Config.queueSize).filter (s.unsettled t)).getLast? with
  | none => exact Nat.zero_le _
  | some j =>
    have := List.mem_of_getLast? h
    simp only [List.mem_filter, List.mem_range] at this
    exact this.1

/-- A code fetch leaves what a store or a port may change. -/
structure StreamRel (t u : State) : Prop where
  cpu : u.cpu = t.cpu
  mem : u.mem = t.mem
  epoch : u.memEpoch = t.memEpoch
  params : u.params = t.params
  biu : u.biu = { t.biu with trace := u.biu.trace }
  rest : u = { t with biu := u.biu, host := u.host }

theorem StreamRel.refl (t : State) : StreamRel t t := ⟨rfl, rfl, rfl, rfl, rfl, rfl⟩

theorem StreamRel.trans {t u v : State} (h : StreamRel t u) (k : StreamRel u v) : StreamRel t v :=
  ⟨k.cpu.trans h.cpu, k.mem.trans h.mem, k.epoch.trans h.epoch, k.params.trans h.params, by rw [k.biu, h.biu], by
    rw [k.rest, h.rest]⟩

/-- One code fetch of Level A (20_memory.md R94). -/
theorem StreamRel.code (t : State) (a : Addr) : StreamRel t (t.perform (.code a)).2 := by
  rw [State.perform_code]
  unfold State.physRead
  split <;> exact ⟨rfl, rfl, rfl, rfl, rfl, rfl⟩

/-- Finding a byte of the stream is at most one code fetch. -/
theorem State.aheadByte_rel (s after : State) (j : Nat) (t : State) : StreamRel t (s.aheadByte after j t).2 := by
  unfold State.aheadByte
  dsimp only
  repeat' split
  all_goals first | exact .refl t | exact .code t _ | exact ⟨rfl, rfl, rfl, rfl, rfl, rfl⟩

/-- Finding bytes of the stream is some code fetches. -/
theorem State.aheadFrom_rel (s after : State) (k j : Nat) (t : State) : StreamRel t (s.aheadFrom after k j t).2 := by
  induction k generalizing j t with
  | zero => exact .refl t
  | succ k ih => exact (s.aheadByte_rel after j t).trans (ih (j + 1) _)

/-- As many bytes are found as are asked for. -/
theorem State.aheadFrom_length (s after : State) (k j : Nat) (t : State) : (s.aheadFrom after k j t).1.length = k := by
  induction k generalizing j t with
  | zero => rfl
  | succ k ih => exact congrArg (· + 1) (ih (j + 1) _)

/-- Each of them is that of its place, found in a state some code fetches later. -/
theorem State.aheadFrom_get (s after : State) (k j i : Nat) (t : State) (h : i < k) :
    ∃ u, StreamRel t u ∧ (s.aheadFrom after k j t).1[i]? = some (s.aheadByte after (j + i) u).1 := by
  induction k generalizing i j t with
  | zero => omega
  | succ k ih =>
    cases i with
    | zero => exact ⟨t, .refl t, rfl⟩
    | succ i =>
      obtain ⟨u, hu, hb⟩ := ih (j + 1) i (s.aheadByte after j t).2 (by omega)
      exact ⟨u, (s.aheadByte_rel after j t).trans hu, by rw [show j + (i + 1) = j + 1 + i by omega]; exact hb⟩

/-- With a flush, or with every byte determined, nothing is settled. -/
theorem State.settleAhead_none {s t : State} {flushed : Bool} (h : flushed = true ∨ s.aheadDepth t = 0) :
    s.settleAhead t flushed = t := by
  unfold State.settleAhead
  rw [if_pos (by simpa using h)]

/-- Otherwise the queue holds the settled bytes. -/
theorem State.settleAhead_q {s t : State} (h : s.aheadDepth t ≠ 0) :
    (s.settleAhead t false).biu.q = (s.aheadFrom t (max (s.aheadDepth t) t.biu.q.length) 0 t).1 := by
  unfold State.settleAhead
  rw [if_neg (by simp [h])]
  dsimp only
  split <;> rfl

/-- Settling changes the draws and nothing else of the CPU. -/
theorem State.settleAhead_cpu (s t : State) (flushed : Bool) : ∃ k, (s.settleAhead t flushed).cpu = { t.cpu with draws := k } := by
  unfold State.settleAhead
  split
  · exact ⟨_, rfl⟩
  · exact ⟨t.cpu.draws + 8, by simp [Cpu.drew, (s.aheadFrom_rel t _ 0 t).cpu]⟩

end Sys2Proof.Machine
end

