-- ==== Sys2Proof/Machine/Construct.lean ====
section
/-!
DEFINITION. Building the machine (70_reset_and_hazards.md R710; 20_memory.md R96, R98): the parameters and the ROM images, the
errors that stop construction, and the machine right after power-on.
-/
namespace Sys2Proof.Machine

/-- The video adapters one may ask for (00_scope.md R5, 65_video.md R666). -/
inductive Adapter where
  | cga | other
deriving DecidableEq, Repr

/-- A ROM image: its bytes from a base address upwards (00_scope.md R5, `ROM_IMAGES`). -/
structure RomImage where
  base : Nat
  bytes : List Byte
deriving DecidableEq, Repr

/-- What the machine is built from.
`gaps` stands for `EUTicks`: the internal gaps of the run, in order (50_pipeline_bus_timing.md R390; log entry 2). -/
structure Construction where
  params : Params
  gaps : List Nat
  adapter : Adapter
  roms : List RomImage
deriving DecidableEq, Repr

/-- Why the machine cannot be built (70_reset_and_hazards.md R710). -/
inductive ConfigError where
  /-- The video adapter is not a CGA. -/
  | adapter
  /-- `RAM_SIZE` is no multiple of 16 KiB or above 0xA0000 (00_scope.md R5). -/
  | ramSize
  /-- A ROM image overlaps RAM, video memory or another image, or runs past the end of memory. -/
  | romOverlap
  /-- The host's handlers claim a port or an address that a device, RAM, a ROM image or another handler has. -/
  | deviceOverlap
  /-- `DMA_CYCLE_TICKS` is below 2 (63_dma.md R597). -/
  | dmaCycle
  /-- No ROM image covers the reset address and the bytes after it. -/
  | noResetRom
deriving DecidableEq, Repr

/-- Two half-open ranges lie one after the other; an empty range strictly inside another does not (DESIGN CHOICE, log entry 34). -/
def disjointRanges (a b c d : Nat) : Bool := decide (b ≤ c ∨ d ≤ a)

/-- An image lies inside memory, and apart from RAM and the video window (20_memory.md R96).
70_reset_and_hazards.md R710 does not list an image that runs past 0xFFFFF; the model refuses it (DESIGN CHOICE, log entry
34). -/
def RomImage.fits (r : RomImage) (ramSize : Nat) : Bool :=
  decide (r.base + r.bytes.length ≤ 2 ^ 20) && disjointRanges r.base (r.base + r.bytes.length) 0 ramSize &&
    disjointRanges r.base (r.base + r.bytes.length) 0xB8000 0xC0000

/-- Two images do not overlap. -/
def RomImage.apart (r t : RomImage) : Bool :=
  disjointRanges r.base (r.base + r.bytes.length) t.base (t.base + t.bytes.length)

/-- No two images overlap. -/
def romsApart : List RomImage → Bool
  | [] => true
  | r :: rs => rs.all r.apart && romsApart rs

/-- Two ranges have no number in common. -/
def AddrRange.apart (r t : AddrRange) : Bool := disjointRanges r.base (r.base + r.size) t.base (t.base + t.size)

/-- No two of the ranges overlap. -/
def rangesApart : List AddrRange → Bool
  | [] => true
  | r :: rs => rs.all r.apart && rangesApart rs

/-- The port ranges of the block's devices (20_memory.md R93). -/
def blockPorts : List AddrRange :=
  [⟨0x00, 0x10⟩, ⟨0x20, 2⟩, ⟨0x40, 4⟩, ⟨0x60, 4⟩, ⟨0x80, 4⟩, ⟨0x3D0, 0x10⟩]

/-- The ranges of the block's memory: RAM, the video window, the ROM images (20_memory.md R96). -/
def blockMem (ramSize : Nat) (roms : List RomImage) : List AddrRange :=
  ⟨0, ramSize⟩ :: ⟨0xB8000, 0x8000⟩ :: roms.map fun r => ⟨r.base, r.bytes.length⟩

/-- The host's handlers claim nothing that is claimed already (20_memory.md R98, 70_reset_and_hazards.md R712). -/
def Construction.handlersApart (c : Construction) : Bool :=
  rangesApart c.params.extPorts && c.params.extPorts.all (fun r => blockPorts.all r.apart) &&
    rangesApart c.params.extMem && c.params.extMem.all (fun r => (blockMem c.params.ramSize c.roms).all r.apart)

/-- An image covers 0xFFFF0 to 0xFFFFF (20_memory.md R96). -/
def RomImage.coversReset (r : RomImage) : Bool := decide (r.base ≤ 0xFFFF0 ∧ 2 ^ 20 ≤ r.base + r.bytes.length)

/-- Put bytes at successive physical addresses. -/
def State.loadAt (s : State) (a : Nat) : List Byte → State
  | [] => s
  | b :: bs => (s.load (BitVec.ofNat 20 a) b).loadAt (a + 1) bs

/-- Put ROM images into memory. -/
def State.loadRoms (s : State) : List RomImage → State
  | [] => s
  | r :: rs => (s.loadAt r.base r.bytes).loadRoms rs

/-- The machine with given parameters right after power-on, before its ROM images are in place. -/
def State.powerOn (params : Params) (gaps : List Nat) : State :=
  { State.reset with params := params, host := { HostState.reset with gaps := gaps } }

/-- Build the machine, or say what stops it (70_reset_and_hazards.md R710). -/
def construct (c : Construction) : Except ConfigError State :=
  if c.adapter ≠ .cga then .error .adapter
  else if c.params.ramSize % 0x4000 ≠ 0 ∨ 0xA0000 < c.params.ramSize then .error .ramSize
  else if !(c.roms.all (RomImage.fits · c.params.ramSize) && romsApart c.roms) then .error .romOverlap
  else if !c.roms.any RomImage.coversReset then .error .noResetRom
  else if !c.handlersApart then .error .deviceOverlap
  else if c.params.dmaCycleTicks < 2 then .error .dmaCycle
  else .ok ((State.powerOn c.params c.gaps).loadRoms c.roms)

end Sys2Proof.Machine
end

