-- ==== Sys2Proof/Tests/Slice0.lean ====
section
/-!
SUPPORT. Tests: well-formedness, decoding of every constructor from a word written out from the spec's encoding, one step of
many instructions with the results of 95_test_vectors.md, and for every statement with hypotheses a witness of each clause.
-/
open Sys2Proof Sys2Proof.Machine
namespace Sys2Proof.Tests

/-! ## Helpers -/

/-- The state after reset with other registers, and with some bytes of memory (addresses rising). -/
def at_ (c : Cpu) (m : List Host.Cell) : State := { State.reset with cpu := c, mem := m }

/-- The state after reset with other registers, and with code at CS:IP. -/
def coded (c : Cpu) (code : List Byte) : State := (at_ c []).loadBytes c.cs c.ip code

/-- The state an outcome gives. -/
def landed (s : State) (o : Host.Outcome State Fault Refusal) : State :=
  match o with
  | .next t => t
  | .fault _ => s
  | .refused _ => s

/-- The state after an instruction. -/
def ran (i : Instr) (s : State) : State := landed s (exec i s)

/-- The state after a step. -/
def stepped (s : State) : State := landed s (step s)

/-- The state after some ticks. -/
def ticked : Nat → State → State
  | 0, s => s
  | k + 1, s => ticked k (landed s s.tick)

/-- A flag by its name, or a dash. -/
def flagName (b : Bool) (name : String) : String := if b then name else "--"

/-- AX and the six arithmetic flags after an instruction that begins with a value in AX and all flags clear. -/
def flagsOf (i : Instr) (ax : Word) : Word × String :=
  let c := (ran i (at_ { Cpu.reset with ax := ax } [])).cpu
  let f := c.flags
  (c.ax, flagName f.cf "CF" ++ " " ++ flagName f.pf "PF" ++ " " ++ flagName f.af "AF" ++ " " ++ flagName f.zf "ZF" ++ " " ++
    flagName f.sf "SF" ++ " " ++ flagName f.ovf "OF")

/-! ## Decoding: a word for every constructor, from its row of 30_encoding.md R140 to R146 -/

/-- Every row reads as the instruction beside it. -/
def reads (t : List (List Byte × Instr)) : Bool := t.all fun x => decide (decode x.1 = .ok x.2 [])

def words1 : List (List Byte × Instr) := [
  ([0x00, 0xDD], .addEbGb (.reg .ch) .bl), ([0x01, 0x5F, 0x12], .addEvGv (.mem (.disp8 .bx 0x12)) .bx),
  ([0x02, 0xF5], .addGbEb .dh (.reg .ch)), ([0x03, 0x77, 0x12], .addGvEv .si (.mem (.disp8 .bx 0x12))),
  ([0x04, 0x9C], .addALIb 0x9C), ([0x05, 0x34, 0xF2], .addAXIv 0xF234), ([0x08, 0xDD], .orEbGb (.reg .ch) .bl),
  ([0x09, 0x5F, 0x12], .orEvGv (.mem (.disp8 .bx 0x12)) .bx), ([0x0A, 0xF5], .orGbEb .dh (.reg .ch)),
  ([0x0B, 0x77, 0x12], .orGvEv .si (.mem (.disp8 .bx 0x12))), ([0x0C, 0x9C], .orALIb 0x9C),
  ([0x0D, 0x34, 0xF2], .orAXIv 0xF234), ([0x10, 0xDD], .adcEbGb (.reg .ch) .bl),
  ([0x11, 0x5F, 0x12], .adcEvGv (.mem (.disp8 .bx 0x12)) .bx), ([0x12, 0xF5], .adcGbEb .dh (.reg .ch)),
  ([0x13, 0x77, 0x12], .adcGvEv .si (.mem (.disp8 .bx 0x12))), ([0x14, 0x9C], .adcALIb 0x9C),
  ([0x15, 0x34, 0xF2], .adcAXIv 0xF234), ([0x18, 0xDD], .sbbEbGb (.reg .ch) .bl),
  ([0x19, 0x5F, 0x12], .sbbEvGv (.mem (.disp8 .bx 0x12)) .bx), ([0x1A, 0xF5], .sbbGbEb .dh (.reg .ch)),
  ([0x1B, 0x77, 0x12], .sbbGvEv .si (.mem (.disp8 .bx 0x12))), ([0x1C, 0x9C], .sbbALIb 0x9C),
  ([0x1D, 0x34, 0xF2], .sbbAXIv 0xF234), ([0x20, 0xDD], .andEbGb (.reg .ch) .bl),
  ([0x21, 0x5F, 0x12], .andEvGv (.mem (.disp8 .bx 0x12)) .bx), ([0x22, 0xF5], .andGbEb .dh (.reg .ch)),
  ([0x23, 0x77, 0x12], .andGvEv .si (.mem (.disp8 .bx 0x12))), ([0x24, 0x9C], .andALIb 0x9C)]

theorem test_words1 : reads words1 = true := by decide

def words2 : List (List Byte × Instr) := [
  ([0x25, 0x34, 0xF2], .andAXIv 0xF234), ([0x28, 0xDD], .subEbGb (.reg .ch) .bl),
  ([0x29, 0x5F, 0x12], .subEvGv (.mem (.disp8 .bx 0x12)) .bx), ([0x2A, 0xF5], .subGbEb .dh (.reg .ch)),
  ([0x2B, 0x77, 0x12], .subGvEv .si (.mem (.disp8 .bx 0x12))), ([0x2C, 0x9C], .subALIb 0x9C),
  ([0x2D, 0x34, 0xF2], .subAXIv 0xF234), ([0x30, 0xDD], .xorEbGb (.reg .ch) .bl),
  ([0x31, 0x5F, 0x12], .xorEvGv (.mem (.disp8 .bx 0x12)) .bx), ([0x32, 0xF5], .xorGbEb .dh (.reg .ch)),
  ([0x33, 0x77, 0x12], .xorGvEv .si (.mem (.disp8 .bx 0x12))), ([0x34, 0x9C], .xorALIb 0x9C),
  ([0x35, 0x34, 0xF2], .xorAXIv 0xF234), ([0x38, 0xDD], .cmpEbGb (.reg .ch) .bl),
  ([0x39, 0x5F, 0x12], .cmpEvGv (.mem (.disp8 .bx 0x12)) .bx), ([0x3A, 0xF5], .cmpGbEb .dh (.reg .ch)),
  ([0x3B, 0x77, 0x12], .cmpGvEv .si (.mem (.disp8 .bx 0x12))), ([0x3C, 0x9C], .cmpALIb 0x9C),
  ([0x3D, 0x34, 0xF2], .cmpAXIv 0xF234), ([0x06], .pushES), ([0x07], .popES), ([0x26], .segES), ([0x0E], .pushCS),
  ([0x0F], .popCS), ([0x2E], .segCS), ([0x16], .pushSS), ([0x17], .popSS), ([0x36], .segSS), ([0x1E], .pushDS)]

theorem test_words2 : reads words2 = true := by decide

def words3 : List (List Byte × Instr) := [
  ([0x1F], .popDS), ([0x3E], .segDS), ([0x27], .daa), ([0x2F], .das), ([0x37], .aaa), ([0x3F], .aas),
  ([0x47], .incReg16 .di), ([0x4F], .decReg16 .di), ([0x57], .pushReg16 .di), ([0x5F], .popReg16 .di),
  ([0x6C, 0x9C], .jcc60 .l 0x9C), ([0x7C, 0x9C], .jcc .l 0x9C), ([0x80, 0xC5, 0x9C], .addEbIb (.reg .ch) 0x9C),
  ([0x80, 0x4F, 0x12, 0x9C], .orEbIb (.mem (.disp8 .bx 0x12)) 0x9C), ([0x80, 0xD5, 0x9C], .adcEbIb (.reg .ch) 0x9C),
  ([0x80, 0x5F, 0x12, 0x9C], .sbbEbIb (.mem (.disp8 .bx 0x12)) 0x9C), ([0x80, 0xE5, 0x9C], .andEbIb (.reg .ch) 0x9C),
  ([0x80, 0x6F, 0x12, 0x9C], .subEbIb (.mem (.disp8 .bx 0x12)) 0x9C), ([0x80, 0xF5, 0x9C], .xorEbIb (.reg .ch) 0x9C),
  ([0x80, 0x7F, 0x12, 0x9C], .cmpEbIb (.mem (.disp8 .bx 0x12)) 0x9C),
  ([0x81, 0xC5, 0x34, 0xF2], .addEvIv (.reg .bp) 0xF234),
  ([0x81, 0x4F, 0x12, 0x34, 0xF2], .orEvIv (.mem (.disp8 .bx 0x12)) 0xF234),
  ([0x81, 0xD5, 0x34, 0xF2], .adcEvIv (.reg .bp) 0xF234),
  ([0x81, 0x5F, 0x12, 0x34, 0xF2], .sbbEvIv (.mem (.disp8 .bx 0x12)) 0xF234),
  ([0x81, 0xE5, 0x34, 0xF2], .andEvIv (.reg .bp) 0xF234),
  ([0x81, 0x6F, 0x12, 0x34, 0xF2], .subEvIv (.mem (.disp8 .bx 0x12)) 0xF234),
  ([0x81, 0xF5, 0x34, 0xF2], .xorEvIv (.reg .bp) 0xF234),
  ([0x81, 0x7F, 0x12, 0x34, 0xF2], .cmpEvIv (.mem (.disp8 .bx 0x12)) 0xF234),
  ([0x82, 0xC5, 0x9C], .addEbIb82 (.reg .ch) 0x9C)]

theorem test_words3 : reads words3 = true := by decide

def words4 : List (List Byte × Instr) := [
  ([0x82, 0x4F, 0x12, 0x9C], .orEbIb82 (.mem (.disp8 .bx 0x12)) 0x9C),
  ([0x82, 0xD5, 0x9C], .adcEbIb82 (.reg .ch) 0x9C),
  ([0x82, 0x5F, 0x12, 0x9C], .sbbEbIb82 (.mem (.disp8 .bx 0x12)) 0x9C),
  ([0x82, 0xE5, 0x9C], .andEbIb82 (.reg .ch) 0x9C),
  ([0x82, 0x6F, 0x12, 0x9C], .subEbIb82 (.mem (.disp8 .bx 0x12)) 0x9C),
  ([0x82, 0xF5, 0x9C], .xorEbIb82 (.reg .ch) 0x9C),
  ([0x82, 0x7F, 0x12, 0x9C], .cmpEbIb82 (.mem (.disp8 .bx 0x12)) 0x9C),
  ([0x83, 0xC5, 0x9C], .addEvIbs (.reg .bp) 0x9C), ([0x83, 0x4F, 0x12, 0x9C], .orEvIbs (.mem (.disp8 .bx 0x12)) 0x9C),
  ([0x83, 0xD5, 0x9C], .adcEvIbs (.reg .bp) 0x9C), ([0x83, 0x5F, 0x12, 0x9C], .sbbEvIbs (.mem (.disp8 .bx 0x12)) 0x9C),
  ([0x83, 0xE5, 0x9C], .andEvIbs (.reg .bp) 0x9C), ([0x83, 0x6F, 0x12, 0x9C], .subEvIbs (.mem (.disp8 .bx 0x12)) 0x9C),
  ([0x83, 0xF5, 0x9C], .xorEvIbs (.reg .bp) 0x9C), ([0x83, 0x7F, 0x12, 0x9C], .cmpEvIbs (.mem (.disp8 .bx 0x12)) 0x9C),
  ([0x84, 0xDD], .testEbGb (.reg .ch) .bl), ([0x85, 0x5F, 0x12], .testEvGv (.mem (.disp8 .bx 0x12)) .bx),
  ([0x86, 0xDD], .xchgEbGb (.reg .ch) .bl), ([0x87, 0x5F, 0x12], .xchgEvGv (.mem (.disp8 .bx 0x12)) .bx),
  ([0x88, 0xDD], .movEbGb (.reg .ch) .bl), ([0x89, 0x5F, 0x12], .movEvGv (.mem (.disp8 .bx 0x12)) .bx),
  ([0x8A, 0xF5], .movGbEb .dh (.reg .ch)), ([0x8B, 0x77, 0x12], .movGvEv .si (.mem (.disp8 .bx 0x12))),
  ([0x8C, 0xD5], .movEwSw (.reg .bp) .ss), ([0x8C, 0x77, 0x12], .movEwSwHi (.mem (.disp8 .bx 0x12)) .ss),
  ([0x8D, 0x16, 0x34, 0xF2], .lea .dx (.direct 0xF234)), ([0x8D, 0xD6], .undefLea .dx .si),
  ([0x8E, 0xD5], .movSwEw .ss (.reg .bp)), ([0x8E, 0x77, 0x12], .movSwEwHi .ss (.mem (.disp8 .bx 0x12)))]

theorem test_words4 : reads words4 = true := by decide

def words5 : List (List Byte × Instr) := [
  ([0x8F, 0xC5], .popEv (.reg .bp)), ([0x8F, 0x4F, 0x12], .undef8F1 (.mem (.disp8 .bx 0x12))),
  ([0x8F, 0xD5], .undef8F2 (.reg .bp)), ([0x8F, 0x5F, 0x12], .undef8F3 (.mem (.disp8 .bx 0x12))),
  ([0x8F, 0xE5], .undef8F4 (.reg .bp)), ([0x8F, 0x6F, 0x12], .undef8F5 (.mem (.disp8 .bx 0x12))),
  ([0x8F, 0xF5], .undef8F6 (.reg .bp)), ([0x8F, 0x7F, 0x12], .undef8F7 (.mem (.disp8 .bx 0x12))), ([0x90], .nop),
  ([0x91], .xchgAXCX), ([0x92], .xchgAXDX), ([0x93], .xchgAXBX), ([0x94], .xchgAXSP), ([0x95], .xchgAXBP),
  ([0x96], .xchgAXSI), ([0x97], .xchgAXDI), ([0x98], .cbw), ([0x99], .cwd),
  ([0x9A, 0x34, 0xF2, 0x56, 0xE1], .callAp 0xF234 0xE156), ([0x9B], .wait), ([0x9C], .pushf), ([0x9D], .popf),
  ([0x9E], .sahf), ([0x9F], .lahf), ([0xA0, 0x34, 0xF2], .movALOb 0xF234), ([0xA1, 0x34, 0xF2], .movAXOv 0xF234),
  ([0xA2, 0x34, 0xF2], .movObAL 0xF234), ([0xA3, 0x34, 0xF2], .movOvAX 0xF234), ([0xA4], .movsb)]

theorem test_words5 : reads words5 = true := by decide

def words6 : List (List Byte × Instr) := [
  ([0xA5], .movsw), ([0xA6], .cmpsb), ([0xA7], .cmpsw), ([0xA8, 0x9C], .testALIb 0x9C),
  ([0xA9, 0x34, 0xF2], .testAXIv 0xF234), ([0xAA], .stosb), ([0xAB], .stosw), ([0xAC], .lodsb), ([0xAD], .lodsw),
  ([0xAE], .scasb), ([0xAF], .scasw), ([0xB6, 0x9C], .movReg8Ib .dh 0x9C),
  ([0xBC, 0x34, 0xF2], .movReg16Iv .sp 0xF234), ([0xC0, 0x34, 0xF2], .retIwC0 0xF234), ([0xC1], .retC1),
  ([0xC2, 0x34, 0xF2], .retIw 0xF234), ([0xC3], .ret), ([0xC4, 0x16, 0x34, 0xF2], .les .dx (.direct 0xF234)),
  ([0xC4, 0xD6], .undefLes .dx .si), ([0xC5, 0x16, 0x34, 0xF2], .lds .dx (.direct 0xF234)),
  ([0xC5, 0xD6], .undefLds .dx .si), ([0xC6, 0xC5, 0x9C], .movEbIb (.reg .ch) 0x9C),
  ([0xC6, 0x4F, 0x12, 0x9C], .undefC61 (.mem (.disp8 .bx 0x12)) 0x9C), ([0xC6, 0xD5, 0x9C], .undefC62 (.reg .ch) 0x9C),
  ([0xC6, 0x5F, 0x12, 0x9C], .undefC63 (.mem (.disp8 .bx 0x12)) 0x9C), ([0xC6, 0xE5, 0x9C], .undefC64 (.reg .ch) 0x9C),
  ([0xC6, 0x6F, 0x12, 0x9C], .undefC65 (.mem (.disp8 .bx 0x12)) 0x9C), ([0xC6, 0xF5, 0x9C], .undefC66 (.reg .ch) 0x9C),
  ([0xC6, 0x7F, 0x12, 0x9C], .undefC67 (.mem (.disp8 .bx 0x12)) 0x9C)]

theorem test_words6 : reads words6 = true := by decide

def words7 : List (List Byte × Instr) := [
  ([0xC7, 0xC5, 0x34, 0xF2], .movEvIv (.reg .bp) 0xF234),
  ([0xC7, 0x4F, 0x12, 0x34, 0xF2], .undefC71 (.mem (.disp8 .bx 0x12)) 0xF234),
  ([0xC7, 0xD5, 0x34, 0xF2], .undefC72 (.reg .bp) 0xF234),
  ([0xC7, 0x5F, 0x12, 0x34, 0xF2], .undefC73 (.mem (.disp8 .bx 0x12)) 0xF234),
  ([0xC7, 0xE5, 0x34, 0xF2], .undefC74 (.reg .bp) 0xF234),
  ([0xC7, 0x6F, 0x12, 0x34, 0xF2], .undefC75 (.mem (.disp8 .bx 0x12)) 0xF234),
  ([0xC7, 0xF5, 0x34, 0xF2], .undefC76 (.reg .bp) 0xF234),
  ([0xC7, 0x7F, 0x12, 0x34, 0xF2], .undefC77 (.mem (.disp8 .bx 0x12)) 0xF234), ([0xC8, 0x34, 0xF2], .retfIwC8 0xF234),
  ([0xC9], .retfC9), ([0xCA, 0x34, 0xF2], .retfIw 0xF234), ([0xCB], .retf), ([0xCC], .int3),
  ([0xCD, 0x9C], .intIb 0x9C), ([0xCE], .into), ([0xCF], .iret), ([0xD0, 0xC5], .rolEb1 (.reg .ch)),
  ([0xD0, 0x4F, 0x12], .rorEb1 (.mem (.disp8 .bx 0x12))), ([0xD0, 0xD5], .rclEb1 (.reg .ch)),
  ([0xD0, 0x5F, 0x12], .rcrEb1 (.mem (.disp8 .bx 0x12))), ([0xD0, 0xE5], .shlEb1 (.reg .ch)),
  ([0xD0, 0x6F, 0x12], .shrEb1 (.mem (.disp8 .bx 0x12))), ([0xD0, 0xF5], .undefD06 (.reg .ch)),
  ([0xD0, 0x7F, 0x12], .sarEb1 (.mem (.disp8 .bx 0x12))), ([0xD1, 0xC5], .rolEv1 (.reg .bp)),
  ([0xD1, 0x4F, 0x12], .rorEv1 (.mem (.disp8 .bx 0x12))), ([0xD1, 0xD5], .rclEv1 (.reg .bp)),
  ([0xD1, 0x5F, 0x12], .rcrEv1 (.mem (.disp8 .bx 0x12))), ([0xD1, 0xE5], .shlEv1 (.reg .bp))]

theorem test_words7 : reads words7 = true := by decide

def words8 : List (List Byte × Instr) := [
  ([0xD1, 0x6F, 0x12], .shrEv1 (.mem (.disp8 .bx 0x12))), ([0xD1, 0xF5], .undefD16 (.reg .bp)),
  ([0xD1, 0x7F, 0x12], .sarEv1 (.mem (.disp8 .bx 0x12))), ([0xD2, 0xC5], .rolEbCL (.reg .ch)),
  ([0xD2, 0x4F, 0x12], .rorEbCL (.mem (.disp8 .bx 0x12))), ([0xD2, 0xD5], .rclEbCL (.reg .ch)),
  ([0xD2, 0x5F, 0x12], .rcrEbCL (.mem (.disp8 .bx 0x12))), ([0xD2, 0xE5], .shlEbCL (.reg .ch)),
  ([0xD2, 0x6F, 0x12], .shrEbCL (.mem (.disp8 .bx 0x12))), ([0xD2, 0xF5], .undefD26 (.reg .ch)),
  ([0xD2, 0x7F, 0x12], .sarEbCL (.mem (.disp8 .bx 0x12))), ([0xD3, 0xC5], .rolEvCL (.reg .bp)),
  ([0xD3, 0x4F, 0x12], .rorEvCL (.mem (.disp8 .bx 0x12))), ([0xD3, 0xD5], .rclEvCL (.reg .bp)),
  ([0xD3, 0x5F, 0x12], .rcrEvCL (.mem (.disp8 .bx 0x12))), ([0xD3, 0xE5], .shlEvCL (.reg .bp)),
  ([0xD3, 0x6F, 0x12], .shrEvCL (.mem (.disp8 .bx 0x12))), ([0xD3, 0xF5], .undefD36 (.reg .bp)),
  ([0xD3, 0x7F, 0x12], .sarEvCL (.mem (.disp8 .bx 0x12))), ([0xD4, 0x9C], .aam 0x9C), ([0xD5, 0x9C], .aad 0x9C),
  ([0xD6], .salc), ([0xD7], .xlat), ([0xDB, 0xED], .esc .o3 .o5 (.reg .bp)), ([0xE0, 0x9C], .loopne 0x9C),
  ([0xE1, 0x9C], .loope 0x9C), ([0xE2, 0x9C], .loop 0x9C), ([0xE3, 0x9C], .jcxz 0x9C), ([0xE4, 0x9C], .inALIb 0x9C)]

theorem test_words8 : reads words8 = true := by decide

def words9 : List (List Byte × Instr) := [
  ([0xE5, 0x9C], .inAXIb 0x9C), ([0xE6, 0x9C], .outIbAL 0x9C), ([0xE7, 0x9C], .outIbAX 0x9C),
  ([0xE8, 0x34, 0xF2], .callJv 0xF234), ([0xE9, 0x34, 0xF2], .jmpJv 0xF234),
  ([0xEA, 0x34, 0xF2, 0x56, 0xE1], .jmpAp 0xF234 0xE156), ([0xEB, 0x9C], .jmpJb 0x9C), ([0xEC], .inALDX),
  ([0xED], .inAXDX), ([0xEE], .outDXAL), ([0xEF], .outDXAX), ([0xF0], .lock), ([0xF1], .lockF1), ([0xF2], .repne),
  ([0xF3], .rep), ([0xF4], .hlt), ([0xF5], .cmc), ([0xF6, 0x47, 0x12, 0x9C], .testEbIb (.mem (.disp8 .bx 0x12)) 0x9C),
  ([0xF6, 0xCD, 0x9C], .testEbIb1 (.reg .ch) 0x9C), ([0xF6, 0x57, 0x12], .notEb (.mem (.disp8 .bx 0x12))),
  ([0xF6, 0xDD], .negEb (.reg .ch)), ([0xF6, 0x67, 0x12], .mulEb (.mem (.disp8 .bx 0x12))),
  ([0xF6, 0xED], .imulEb (.reg .ch)), ([0xF6, 0x77, 0x12], .divEb (.mem (.disp8 .bx 0x12))),
  ([0xF6, 0xFD], .idivEb (.reg .ch)), ([0xF7, 0x47, 0x12, 0x34, 0xF2], .testEvIv (.mem (.disp8 .bx 0x12)) 0xF234),
  ([0xF7, 0xCD, 0x34, 0xF2], .testEvIv1 (.reg .bp) 0xF234), ([0xF7, 0x57, 0x12], .notEv (.mem (.disp8 .bx 0x12))),
  ([0xF7, 0xDD], .negEv (.reg .bp))]

theorem test_words9 : reads words9 = true := by decide

def words10 : List (List Byte × Instr) := [
  ([0xF7, 0x67, 0x12], .mulEv (.mem (.disp8 .bx 0x12))), ([0xF7, 0xED], .imulEv (.reg .bp)),
  ([0xF7, 0x77, 0x12], .divEv (.mem (.disp8 .bx 0x12))), ([0xF7, 0xFD], .idivEv (.reg .bp)), ([0xF8], .clc),
  ([0xF9], .stc), ([0xFA], .cli), ([0xFB], .sti), ([0xFC], .cld), ([0xFD], .std),
  ([0xFE, 0x47, 0x12], .incEb (.mem (.disp8 .bx 0x12))), ([0xFE, 0xCD], .decEb (.reg .ch)),
  ([0xFE, 0x57, 0x12], .undefFE2 (.mem (.disp8 .bx 0x12))), ([0xFE, 0xDD], .undefFE3 (.reg .ch)),
  ([0xFE, 0x67, 0x12], .undefFE4 (.mem (.disp8 .bx 0x12))), ([0xFE, 0xED], .undefFE5 (.reg .ch)),
  ([0xFE, 0x77, 0x12], .undefFE6 (.mem (.disp8 .bx 0x12))), ([0xFE, 0xFD], .undefFE7 (.reg .ch)),
  ([0xFF, 0x47, 0x12], .incEv (.mem (.disp8 .bx 0x12))), ([0xFF, 0xCD], .decEv (.reg .bp)),
  ([0xFF, 0x57, 0x12], .callEv (.mem (.disp8 .bx 0x12))), ([0xFF, 0x9B, 0x34, 0xF2], .callMp (.disp16 .bpdi 0xF234)),
  ([0xFF, 0xDE], .undefFF3 .si), ([0xFF, 0xE5], .jmpEv (.reg .bp)),
  ([0xFF, 0xAB, 0x34, 0xF2], .jmpMp (.disp16 .bpdi 0xF234)), ([0xFF, 0xEE], .undefFF5 .si),
  ([0xFF, 0x77, 0x12], .pushEv (.mem (.disp8 .bx 0x12))), ([0xFF, 0xFD], .undefFF7 (.reg .bp))]

theorem test_words10 : reads words10 = true := by decide

/-! ## Well-formedness -/

/-- `[BP]` without a displacement has no encoding, whatever instruction it stands in (30_encoding.md R125). -/
theorem test_illformed : ([.addEbGb (.mem (.noDisp .bp)) .al, .addGvEv .ax (.mem (.noDisp .bp)), .lea .ax (.noDisp .bp),
    .jmpMp (.noDisp .bp), .esc .o1 .o0 (.mem (.noDisp .bp)), .undefFF7 (.mem (.noDisp .bp))] : List Instr).all
    (fun i => !i.wf) = true := by decide

theorem test_wellformed : ([.addEbGb (.mem (.disp8 .bp 0)) .al, .lea .ax (.direct 0), .lea .ax (.noDisp .bx),
    .undefLea .ax .bp] : List Instr).all Instr.wf = true := by decide

/-! ## Memory and operands (95_test_vectors.md, M) -/

/-- M-2: addresses wrap at 2^20. -/
theorem test_phys_wraps : phys 0x1234 0x5678 = 0x179B8 ∧ phys 0xFFFF 0x0010 = 0 := by decide

/-- M-3: the second byte of a word at 0xFFFF is at offset 0 of its segment. -/
theorem test_word_wraps :
    (ran (.movGvEv .ax (.mem (.direct 0xFFFF))) (at_ { Cpu.reset with ds := 0x1000 } [(0x10000, 0x12), (0x1FFFF, 0x34)])).cpu.ax
      = 0x1234 := by decide

/-- M-4: the low byte goes to the low address, in a cycle of its own. -/
theorem test_little_endian :
    let t := ran (.movOvAX 0x0500) (at_ { Cpu.reset with ax := 0xBEEF } [])
    t.mem = [(0x500, 0xEF), (0x501, 0xBE)] ∧ t.biu.trace.map (·.addr) = [some 0x500, some 0x501] := by decide

/-- M-5: a push at SP = 1 wraps. -/
theorem test_push_wraps :
    let t := ran (.pushReg16 .ax) (at_ { Cpu.reset with ax := 0xA1B2, ss := 0x2000, sp := 1 } [])
    t.cpu.sp = 0xFFFF ∧ t.mem = [(0x20000, 0xA1), (0x2FFFF, 0xB2)] := by decide

/-- M-6: an offset wraps in 16 bits. -/
theorem test_offset_wraps : { Cpu.reset with bx := 0xFFFF, si := 2 }.offset (.disp8 .bxsi 0xFF) = 0 := by decide

/-- M-7 and M-8: BP implies SS, and an override replaces it. -/
theorem test_segments :
    let c := { Cpu.reset with bp := 0x0100, di := 0x0010, ss := 0x3000, ds := 0x4000 }
    c.reads16 (.mem (.disp16 .bpdi 0x1234)) = [.memR 0x31344, .memR 0x31345] ∧
    { c with segOverride := some .ds }.reads16 (.mem (.disp16 .bpdi 0x1234)) = [.memR 0x41344, .memR 0x41345] := by decide

/-- M-11 and M-12: ROM and unclaimed addresses drop a write; an unclaimed one reads 0xFF. -/
theorem test_rom :
    let s := { at_ { Cpu.reset with ds := 0xF000 } [(0xFE000, 0x5A)] with params := { Params.reset with ramSize := 0x40000 } }
    (ran (.movEbIb (.mem (.direct 0xE000)) 0x11) s).peek 0xFE000 = 0x5A ∧ s.peek 0x80000 = 0xFF := by decide

/-- M-13: an unclaimed port reads 0xFF. -/
theorem test_unclaimed_port : (ran .inALDX (at_ { Cpu.reset with dx := 0x0300 } [])).cpu.ax = 0x00FF := by decide

/-- M-14: a word OUT reaches two ports. -/
theorem test_word_out :
    (ran (.outIbAX 0x40) (at_ { Cpu.reset with ax := 0x1234 } [])).biu.trace.map (fun r => (r.addr, r.data))
      = [(some 0x40, 0x34), (some 0x41, 0x12)] := by decide

/-! ## Data transfer (X) -/

/-- X-5: bit 2 of the register field is ignored. -/
theorem test_mov_sreg_high :
    (stepped (coded { Cpu.reset with ax := 0, es := 0x1111, ds := 0x4444 } [0x8C, 0xE0])).cpu.ax = 0x1111 := by decide

/-- X-4: a segment load inhibits every interrupt at the next boundary. -/
theorem test_mov_ss :
    let t := ran (.movSwEw .ss (.reg .ax)) (at_ { Cpu.reset with ax := 0x1000 } [])
    t.cpu.ss = 0x1000 ∧ t.cpu.inhibit = .all := by decide

/-- X-6 and X-7: PUSH SP pushes the new SP; POP SP leaves the popped value. -/
theorem test_push_sp :
    (ran (.pushReg16 .sp) (at_ { Cpu.reset with sp := 0x0100 } [])).mem = [(0xFE, 0xFE), (0xFF, 0x00)] ∧
    (ran (.popReg16 .sp) (at_ { Cpu.reset with sp := 0x00FE } [(0xFE, 0x34), (0xFF, 0x12)])).cpu.sp = 0x1234 := by decide

/-- X-9: XCHG with memory. -/
theorem test_xchg :
    let t := ran (.xchgEvGv (.mem (.noDisp .bx)) .ax) (at_ { Cpu.reset with ax := 0xAAAA, bx := 0x200 } [(0x200, 0x55), (0x201, 0x55)])
    t.cpu.ax = 0x5555 ∧ t.mem = [(0x200, 0xAA), (0x201, 0xAA)] := by decide

/-- X-11: XLAT. -/
theorem test_xlat : (ran .xlat (at_ { Cpu.reset with ax := 0xFF, bx := 0x300 } [(0x3FF, 0x5A)])).cpu.ax = 0x5A := by decide

/-- X-13: LEA. -/
theorem test_lea :
    (ran (.lea .ax (.disp8 .bxsi 0xFF)) (at_ { Cpu.reset with bx := 0x1000, si := 0x234 } [])).cpu.ax = 0x1233 := by decide

/-- X-14: LDS. -/
theorem test_lds :
    let t := ran (.lds .si (.noDisp .bx)) (at_ { Cpu.reset with bx := 0x400 } [(0x400, 0x78), (0x401, 0x56), (0x402, 0), (0x403, 0x30)])
    t.cpu.si = 0x5678 ∧ t.cpu.ds = 0x3000 := by decide

/-- X-15 to X-18: the flags in their image. -/
theorem test_flag_transfers :
    (ran .lahf (at_ { Cpu.reset with flags := { Flags.clear with cf := true, af := true, sf := true } } [])).cpu.ax = 0x9300 ∧
    (ran .popf (at_ { Cpu.reset with sp := 0x100 } [(0x100, 0xFF), (0x101, 0xFF)])).cpu.flags.image = 0xFFD7 := by decide

/-! ## Arithmetic (A) -/

/-- A-1 to A-5. -/
theorem test_add :
    flagsOf (.addALIb 0x01) 0x7F = (0x80, "-- -- AF -- SF OF") ∧ flagsOf (.addALIb 0x01) 0xFF = (0, "CF PF AF ZF -- --") ∧
    flagsOf (.addAXIv 0xFFFF) 0xFFFF = (0xFFFE, "CF -- AF -- SF --") := by decide

/-- A-6 and A-13. -/
theorem test_carry_in :
    let c := { Cpu.reset with ax := 0xFF, flags := { Flags.clear with cf := true } }
    (ran (.adcALIb 0) (at_ c [])).cpu.ax = 0 ∧
    ((ran (.sbbALIb 0xFF) (at_ { c with ax := 0 } [])).cpu.ax = 0 ∧
      (ran (.sbbALIb 0xFF) (at_ { c with ax := 0 } [])).cpu.flags.cf = true) := by decide

/-- A-9 to A-12 and A-15. -/
theorem test_sub :
    flagsOf (.subALIb 0x01) 0x80 = (0x7F, "-- -- AF -- -- OF") ∧ flagsOf (.subALIb 0xFF) 0x7F = (0x80, "CF -- -- -- SF OF") ∧
    flagsOf (.subAXIv 0x8000) 0 = (0x8000, "CF PF -- -- SF OF") ∧ flagsOf (.cmpALIb 5) 5 = (5, "-- PF -- ZF -- --") := by decide

/-- A-18 and A-20. -/
theorem test_inc_dec :
    flagsOf (.incReg16 .ax) 0x7FFF = (0x8000, "-- PF AF -- SF OF") ∧
    flagsOf (.decEb (.reg .al)) 0x80 = (0x7F, "-- -- AF -- -- OF") := by decide

/-- A-22 and A-23. -/
theorem test_neg :
    flagsOf (.negEb (.reg .al)) 0x80 = (0x80, "CF -- -- -- SF OF") ∧ flagsOf (.negEb (.reg .al)) 0 = (0, "-- PF -- ZF -- --") := by
  decide

/-- A-25: the immediate of opcode 83 is sign-extended. -/
theorem test_sign_extended : (stepped (coded Cpu.reset [0x83, 0xC3, 0xFF])).cpu.bx = 0xFFFF := by decide

/-- A-26 and A-27. -/
theorem test_sign_extension :
    (ran .cbw (at_ { Cpu.reset with ax := 0x80 } [])).cpu.ax = 0xFF80 ∧
    (ran .cwd (at_ { Cpu.reset with ax := 0x8000 } [])).cpu.dx = 0xFFFF := by decide

/-- A-31 and A-33. -/
theorem test_mul :
    let t := ran (.mulEv (.reg .bx)) (at_ { Cpu.reset with ax := 0xFFFF, bx := 0xFFFF } [])
    let u := ran (.mulEb (.reg .bl)) (at_ { Cpu.reset with ax := 0x0F, bx := 0x0F } [])
    (t.cpu.dx, t.cpu.ax, t.cpu.flags.cf) = (0xFFFE, 1, true) ∧ (u.cpu.ax, u.cpu.flags.ovf) = (0xE1, false) := by decide

/-- A-36 and A-37. -/
theorem test_imul :
    let t := ran (.imulEv (.reg .bx)) (at_ { Cpu.reset with ax := 0x8000, bx := 0xFFFF } [])
    let u := ran (.imulEb (.reg .bl)) (at_ { Cpu.reset with ax := 0x7F, bx := 2 } [])
    (t.cpu.dx, t.cpu.ax, t.cpu.flags.cf) = (0, 0x8000, true) ∧ (u.cpu.ax, u.cpu.flags.ovf) = (0xFE, true) := by decide

/-- A-60 and A-64. -/
theorem test_decimal :
    let t := ran .daa (at_ { Cpu.reset with ax := 0xAE } [])
    let u := ran .das (at_ { Cpu.reset with ax := 0xEE, flags := { Flags.clear with cf := true, af := true } } [])
    (t.cpu.ax, t.cpu.flags.cf, t.cpu.flags.af) = (0x14, true, true) ∧ (u.cpu.ax, u.cpu.flags.cf) = (0x88, true) := by decide

/-- A-68 and A-70. -/
theorem test_ascii :
    (ran .aaa (at_ { Cpu.reset with ax := 0xFF0A } [])).cpu.ax = 0 ∧
    (ran .aas (at_ { Cpu.reset with ax := 0x0005, flags := { Flags.clear with af := true } } [])).cpu.ax = 0xFF0F := by decide

/-- A-74 and A-78. -/
theorem test_aam_aad :
    (ran (.aam 10) (at_ { Cpu.reset with ax := 0xFF } [])).cpu.ax = 0x1905 ∧
    (ran (.aad 10) (at_ { Cpu.reset with ax := 0xFFFF } [])).cpu.ax = 0x00F5 := by decide

/-! ## Logic, shifts and rotates (L) -/

/-- L-1 to L-5. -/
theorem test_logic :
    (ran (.andALIb 0x3C) (at_ { Cpu.reset with ax := 0xF0 } [])).cpu.ax = 0x30 ∧
    (ran (.orALIb 0x0F) (at_ { Cpu.reset with ax := 0xF0 } [])).cpu.ax = 0xFF ∧
    (ran (.xorEvGv (.reg .ax) .ax) (at_ { Cpu.reset with ax := 0xAAAA } [])).cpu.flags.zf = true ∧
    (ran (.testAXIv 0x8000) (at_ { Cpu.reset with ax := 0x8001 } [])).cpu.ax = 0x8001 ∧
    flagsOf (.notEb (.reg .al)) 0 = (0xFF, "-- -- -- -- -- --") := by decide

/-- L-10, L-13, L-16, L-18: rotates by number. -/
theorem test_rotates :
    ShiftOp.rol.steps 4 (false, 0x81#8) = (false, 0x18) ∧ ShiftOp.ror.steps 1 (false, 0x81#8) = (true, 0xC0) ∧
    ShiftOp.rcl.steps 2 (true, 0x80#8) = (false, 0x03) ∧ ShiftOp.rcr.steps 1 (true, 0x00#8) = (false, 0x80) := by decide

/-- L-19, L-23, L-27, L-28: the count is the whole of CL. -/
theorem test_shifts :
    let by_ := fun (i : Instr) (ax cl : Word) => (ran i (at_ { Cpu.reset with ax := ax, cx := cl } [])).cpu
    (by_ (.shlEb1 (.reg .al)) 0x81 0).ax = 0x02 ∧ (by_ (.shlEb1 (.reg .al)) 0x81 0).flags.ovf = true ∧
    (by_ (.shlEbCL (.reg .al)) 0x01 0xFF).ax = 0 ∧ (by_ (.sarEbCL (.reg .al)) 0x80 0xC8).ax = 0xFF ∧
    (by_ (.sarEbCL (.reg .al)) 0x80 0xC8).flags.cf = true ∧ (by_ (.shrEvCL (.reg .ax)) 0x8000 15).ax = 1 := by decide +kernel

/-- L-31: a count of 0 changes no flag. -/
theorem test_shift_by_zero :
    (ran (.shlEbCL (.reg .al)) (at_ { Cpu.reset with ax := 0x5A, flags := Flags.ofImage 0xFFFF } [])).cpu
      = { Cpu.reset with ax := 0x5A, flags := Flags.ofImage 0xFFFF } := by decide

/-! ## Strings (S) -/

/-- S-3: MOVSW at the top of the segment. -/
theorem test_movsw :
    let t := ran .movsw (at_ { Cpu.reset with ds := 0x1000, es := 0x2000, si := 0xFFFF } [(0x10000, 0x12), (0x1FFFF, 0x34)])
    t.peek 0x20000 = 0x34 ∧ t.peek 0x20001 = 0x12 ∧ t.cpu.si = 1 ∧ t.cpu.di = 2 := by decide

/-- S-4: an override moves the source, and not the destination. -/
theorem test_movs_override :
    let t := ran .movsb (at_ { Cpu.reset with ds := 0x1000, es := 0x2000, cs := 0x3000, segOverride := some .cs } [(0x30000, 0x11)])
    t.peek 0x20000 = 0x11 ∧ t.cpu.segOverride = none := by decide

/-- S-5: CMPSB. -/
theorem test_cmpsb :
    (ran .cmpsb (at_ { Cpu.reset with ds := 0x1000, es := 0x2000 } [(0x10000, 5), (0x20000, 7)])).cpu.flags.image = 0xF093 := by
  decide

/-- S-12: REPNE SCASB stops one past the byte it looks for. -/
theorem test_repne_scasb :
    let t := (at_ { Cpu.reset with cx := 0xFFFF, di := 0x400, repMark := some .repne }
      [(0x400, 0x68), (0x401, 0x69), (0x402, 0)]).again .scasb 3
    t.cpu.cx = 0xFFFC ∧ t.cpu.di = 0x403 ∧ t.cpu.flags.zf = true ∧ t.cpu.repActive = none := by decide +kernel

/-- S-7 and S-8: LODSW and STOSW. -/
theorem test_lods_stos :
    (ran .lodsw (at_ { Cpu.reset with si := 0x100 } [(0x100, 0x34), (0x101, 0x12)])).cpu.ax = 0x1234 ∧
    (ran .stosw (at_ { Cpu.reset with ax := 0xCAFE, di := 0x200 } [])).mem = [(0x200, 0xFE), (0x201, 0xCA)] := by decide

/-! ## Control transfer and processor control (C, Z) -/

/-- C-2 and C-4: relative jumps, from the offset after the instruction. -/
theorem test_jumps :
    (stepped (coded { Cpu.reset with cs := 0x4000, ip := 0x0100 } [0xEB, 0x80])).cpu.ip = 0x0082 ∧
    (stepped (coded { Cpu.reset with cs := 0x4000, ip := 0x8000 } [0xE9, 0xFD, 0x7F])).cpu.ip = 0 := by decide

/-- C-7: the alias of a conditional jump. -/
theorem test_jcc_alias :
    (stepped (coded { Cpu.reset with ip := 0x200, flags := { Flags.clear with zf := true } } [0x64, 0x05])).cpu.ip = 0x207 := by
  decide

/-- C-9: CALL SP takes the old SP. -/
theorem test_call_sp :
    let t := ran (.callEv (.reg .sp)) (at_ { Cpu.reset with ip := 0x302, sp := 0x100 } [])
    t.cpu.ip = 0x100 ∧ t.cpu.sp = 0xFE ∧ t.mem = [(0xFE, 0x02), (0xFF, 0x03)] := by decide

/-- C-10: RET with a number of bytes. -/
theorem test_ret :
    let t := ran (.retIw 4) (at_ { Cpu.reset with sp := 0xFFFE } [(0xFFFE, 0), (0xFFFF, 4)])
    t.cpu.ip = 0x400 ∧ t.cpu.sp = 4 := by decide

/-- C-12: INTO. -/
theorem test_into :
    let t := ran .into (at_ { Cpu.reset with ip := 0x51, cs := 0x2000, sp := 0x100, flags := { Flags.clear with ovf := true } }
      [(0x10, 0), (0x11, 2), (0x12, 0), (0x13, 0xF0)])
    t.cpu.ip = 0x200 ∧ t.cpu.cs = 0xF000 ∧ t.peek 0xFA = 0x51 ∧ t.peek 0xFD = 0x20 := by decide

/-- C-13: IRET. -/
theorem test_iret :
    let t := ran .iret (at_ { Cpu.reset with sp := 0x100 }
      [(0x100, 0x02), (0x101, 0x01), (0x102, 0x00), (0x103, 0x10), (0x104, 0xFF), (0x105, 0xFF)])
    t.cpu.ip = 0x102 ∧ t.cpu.cs = 0x1000 ∧ t.cpu.flags.image = 0xFFD7 := by decide

/-- C-14 to C-18: the LOOP family and JCXZ. -/
theorem test_loops :
    let by_ := fun (i : Instr) (cx : Word) => let c := (ran i (at_ { Cpu.reset with cx := cx, ip := 0x12 } [])).cpu; (c.cx, c.ip)
    by_ (.loop 0xFE) 0 = (0xFFFF, 0x10) ∧ by_ (.loop 0xFE) 1 = (0, 0x12) ∧ by_ (.loopne 0x10) 2 = (1, 0x22) ∧
    by_ (.loope 0x10) 2 = (1, 0x12) ∧ by_ (.jcxz 0x10) 1 = (1, 0x12) := by decide

/-- Z-10: ESC reads its operand. -/
theorem test_esc :
    (ran (.esc .o1 .o0 (.mem (.direct 0x200))) (at_ Cpu.reset [])).biu.trace.map (fun r => (r.addr, r.cycle))
      = [(some 0x200, .memR), (some 0x201, .memR)] := by decide

/-- Z-12: SALC. -/
theorem test_salc :
    (ran .salc (at_ { Cpu.reset with flags := { Flags.clear with cf := true } } [])).cpu.ax = 0x00FF := by decide

/-- Z-13: the later of two overrides wins. -/
theorem test_overrides :
    let s := coded { Cpu.reset with cs := 0x4000, ds := 0x1000, es := 0x2000 } [0x26, 0x3E, 0x8A, 0x07]
    ((stepped (stepped (stepped s))).biu.ring.filter fun r => r.cycle = .memR).map (·.addr) = [some 0x10000] := by decide +kernel

/-! ## Interrupts and exceptions (E) -/

/-- E-2: a divide error saves the offset after the instruction. -/
theorem test_divide_error :
    let t := stepped (coded { Cpu.reset with cs := 0x1000, ip := 0x200, sp := 0x100 } [0xF6, 0xF3])
    t.peek 0xFA = 0x02 ∧ t.peek 0xFB = 0x02 ∧ t.peek 0xFD = 0x10 ∧ t.cpu.sp = 0xFA := by decide +kernel

/-- E-4: an NMI is not taken right after a segment load, and is taken after the next instruction. -/
theorem test_nmi_after_segment_load :
    let s := { coded { Cpu.reset with cs := 0x4000, sp := 0x100, ax := 0x1000 } [0x8E, 0xD8, 0x90, 0x90] with
      nmi := { latch := true, prev := false }, cpu := { Cpu.reset with cs := 0x4000, sp := 0x100, inhibit := .all } }
    (stepped s).cpu.ip = 2 ∧ (stepped (stepped s)).cpu.ip = 3 ∧ (stepped (stepped (stepped s))).cpu.sp = 0xFA := by decide

/-- E-5: a single step. -/
theorem test_single_step :
    let s := coded { Cpu.reset with cs := 0x1000, ip := 0x100, sp := 0x100, flags := { Flags.clear with tf := true } } [0x90]
    (stepped s).cpu.ip = 0x101 ∧ (stepped (stepped s)).peek 0xFA = 0x01 ∧ (stepped (stepped s)).peek 0xFF = 0xF1 ∧
      (stepped (stepped s)).cpu.flags.tf = false := by decide +kernel

/-! ## Reset and ticks (T, R) -/

/-- T1: the ticks of the far jump at the reset address, with its trace. -/
theorem test_reset_far_jump :
    let t := ticked 21 (State.reset.loadBytes 0xFFFF 0 [0xEA, 0x5B, 0xE0, 0x00, 0xF0])
    t.biu.ring.map (fun r => (r.tick, r.data)) = [(1, 0xEA), (5, 0x5B), (9, 0xE0), (13, 0x00), (17, 0xF0)] ∧
    t.cpu.cs = 0xF000 ∧ t.cpu.ip = 0xE05B ∧ t.biu.boundary = true ∧ t.biu.q = [] := by decide +kernel

/-- T1: the first fetch after the jump has its T1 in tick 22. -/
theorem test_reset_far_jump_fetch :
    let t := ticked 22 (State.reset.loadBytes 0xFFFF 0 [0xEA, 0x5B, 0xE0, 0x00, 0xF0])
    t.biu.t = .t2 ∧ t.biu.cur.map (·.req) = some (.code 0xFE05B) ∧ t.biu.cur.map (·.t1) = some 21 := by decide +kernel

/-- T2: with the execution unit stalled the queue fills to four bytes and no fifth is fetched. -/
theorem test_queue_fills :
    let t := ticked 30 { State.reset with eu := { Eu.reset with wait := 100 } }
    t.biu.q.length = 4 ∧ t.biu.t = .ti := by decide +kernel

/-- Step-bus-cycle: the fetch of the first code byte ends in tick 4 of its T1 to T4 (50_pipeline_bus_timing.md R372, R381). -/
theorem test_step_bus_cycle :
    let once := fun s : State => match s.stepBusCycle with
      | .next x => x.1
      | .fault _ | .refused _ => s
    let s := once (State.reset.loadBytes 0xFFFF 0 [0xEA, 0x5B])
    let t := once s
    (s.biu.ticks, s.biu.t, t.biu.ticks, t.biu.trace.map (·.data)) = (1, .t1, 5, [0xEA]) := by decide +kernel

/-- P5 without the jump, at Level A: the old or the new byte, by a free choice (20_memory.md R108). -/
theorem test_store_into_queue :
    (stepped (coded { Cpu.reset with cs := 0x4000, ds := 0x4000 } [0xC6, 0x06, 0x05, 0x00, 0x43, 0x40])).biu.q.head? =
      some (if Config.freeBit 0 then 0x40 else 0x43) := rfl

/-- MOV CS at Level A: the next byte is that of the old or of the new CS at its offset (40_data_transfer.md R171). -/
theorem test_mov_cs_draws :
    let s := ((coded { Cpu.reset with cs := 0x1000, ax := 0x2000 } [0x8E, 0xC8, 0x40]).poke 0x20002 0x43).consume 2
    let u := ran (.movSwEw .cs (.reg .ax)) s
    u.cpu.cs = 0x2000 ∧ (s.settleAhead u false).biu.q.length = 4 ∧
      (s.settleAhead u false).biu.q.head? = some (if Config.freeBit 0 then 0x40 else 0x43) := by
  intro s u
  have first : (s.settleAhead u false).biu.q.head? =
      some (u.perform (.code (if Config.freeBit 0 then 0x10002 else 0x20002))).1 := rfl
  refine ⟨by decide, by rfl, first.trans ?_⟩
  split <;> rfl

/-- A predicate that tells overrides apart flushes after one of them only (45_processor_control.md R333). -/
theorem test_segment_edge :
    let s := fun b : Byte => { coded { Cpu.reset with cs := 0x4000 } [b, 0x90, 1, 2] with
      params := { Params.reset with segEdgeFlush := [⟨[.segES], .nop⟩] }, biu := { Biu.reset with q := [b, 0x90, 1, 2] }
      host := { HostState.reset with elapse := [0, 0] } }
    (stepped (stepped (s 0x26))).biu.q = [] ∧ (stepped (stepped (s 0x2E))).biu.q = [1, 2] := by decide +kernel

/-- A locked instruction waits while an earlier grant lasts, so no transfer falls between its accesses (20_memory.md R104). -/
theorem test_lock_waits :
    let s := { coded { Cpu.reset with cs := 0x4000, lockMark := true } [0xFE, 0x06, 0x05, 0x00] with
      biu := { Biu.reset with t := .th } }
    (stepped s).biu.trace = [] ∧ (stepped s).cpu.ip = 0 ∧ (stepped (stepped s)).cpu.ip = 4 := by decide +kernel

/-- A WAIT in progress that finds TEST true completes although a request is there, and the entry then saves the offset after
it; with TEST false the entry saves the WAIT's own (45_processor_control.md R342; 60_exceptions.md R446 (d)). -/
theorem test_wait_passes_first :
    let s := fun test : Bool => { at_ { Cpu.reset with
        ip := 0x0100, sp := 0x0100, waiting := true, flags := { Flags.clear with ifl := true } } [] with
      lines := { Lines.reset with test := test }, nmi := { latch := true, prev := true } }
    ((stepped (s true)).cpu.ip, (stepped (s true)).cpu.waiting) = (0x0100, false) ∧
      (stepped (stepped (s true))).peek 0xFA = 0x00 ∧ (stepped (s false)).peek 0xFA = 0xFF := by decide +kernel

/-- The first look of a WAIT that finds TEST false samples: the single step saves the WAIT's own offset, although TEST is true
after the next tick (45_processor_control.md R342; 60_exceptions.md R446 (d)). -/
theorem test_wait_first_look_samples :
    let s := coded { Cpu.reset with cs := 0x1000, ip := 0x0100, sp := 0x0100, flags := { Flags.clear with tf := true } } [0x9B]
    (stepped s).cpu.waiting = true ∧ s.params.testPin = true ∧ (stepped (stepped s)).peek 0xFA = 0x00 ∧
      (stepped (stepped s)).peek 0xFB = 0x01 := by decide +kernel

/-- At a sampling point of Level A an NMI edge wins over a request that came with it (60_exceptions.md R440, R445, R446). -/
theorem test_nmi_before_request :
    let s := { at_ { Cpu.reset with flags := { Flags.clear with ifl := true } } [] with
      lines := { Lines.reset with intr := true, nmi := true } }
    s.choose = some .nmi ∧ (s.beginEntry .nmi).choose = some .maskable := by decide

/-- REP_ACTIVE is set during the first iteration, here the last as well, and none after it (43_string.md R276). -/
theorem test_rep_active_first_iteration :
    let s := coded { Cpu.reset with cs := 0x4000, cx := 1, repMark := some .rep } [0xAA]
    let t := (s.consume 1).beginTask (.instr .stosb) 0
    t.cpu.repActive = some ⟨.rep, 0xAA, 0xFFFF⟩ ∧ (stepped s).cpu.repActive = none := by decide +kernel

/-- A WAIT looks at TEST in every tick, whatever the gaps (45_processor_control.md R342). -/
theorem test_wait_looks :
    let s := { at_ { Cpu.reset with waiting := true } [] with
      host := { HostState.reset with gaps := [5, 5] }, params := { Params.reset with testPin := false } }
    (stepped s).biu.ticks = 1 ∧ (stepped s).host.gaps = [5, 5] := by decide +kernel

/-- A DMA request gets the bus between the iterations of a repeated string instruction, but not under LOCK
(43_string.md R276, R277; 20_memory.md R104). -/
theorem test_locked_repeat :
    let s := fun lock : Bool => { at_ { Cpu.reset with cx := 3, repActive := some ⟨.rep, 0xA4, 0⟩, repMark := some .rep, lockMark := lock } [] with
      lines := { Lines.reset with hrq := true }, dma := { Dma.reset with sreq := 2 } }
    (stepped (s false)).dma.channel 1 ≠ Dma.reset.channel 1 ∧ (stepped (s true)).dma = (s true).dma := by
  decide +kernel

/-- The reset address with an instruction there: the far jump is the first instruction (70_reset_and_hazards.md R701). -/
theorem test_first_instruction :
    let t := stepped (State.reset.loadBytes 0xFFFF 0 [0xEA, 0x5B, 0xE0, 0x00, 0xF0])
    t.cpu.cs = 0xF000 ∧ t.cpu.ip = 0xE05B := by decide

/-! ## The devices (D) -/

/-- D-PIC-1 and D-PIC-2. -/
theorem test_pic :
    let p := ((Pic.reset.writeCommand 0x13).writeData 0 8).writeData 0 9
    let q := p.tick 0x28
    (p.init, p.vbase, p.imr) = (.ready, 8, 0) ∧ q.irr = 0x28 ∧ q.ackFirst.vector = 0x0B ∧ q.ackFirst.isr = 0x08 ∧
    q.ackFirst.ackSecond.intr = false ∧ (q.ackFirst.ackSecond.writeCommand 0x20).intr = true := by decide

/-- D-PIC-9: rotated priority. -/
theorem test_pic_rotation :
    let p := { (((Pic.reset.writeCommand 0x13).writeData 0 8).writeData 0 9).writeCommand 0xC3 with irr := 0x18 }
    p.lowest = 3 ∧ p.ackFirst.vector = 0x0C := by decide

/-- D-PIT-1: mode 2 with 3. -/
theorem test_pit_mode2 :
    let p := ((Pit.reset.write 3 0x34).write 0 3).write 0 0
    [1, 2, 3, 4, 6].map (fun k => ((p.c0.after 0 false k).ce, (p.c0.after 0 false k).outv))
      = [(3, true), (2, true), (1, false), (3, true), (1, false)] := by decide

/-- D-PIT-5: mode 3 with 5. -/
theorem test_pit_mode3 :
    let p := ((Pit.reset.write 3 0xB6).write 2 5).write 2 0
    [1, 2, 3, 4, 5, 6].map (fun k => ((p.c2.after 0 false k).ce, (p.c2.after 0 false k).outv))
      = [(5, true), (4, true), (2, true), (5, false), (2, false), (5, true)] := by decide

/-- A gate edge after the control word and before a reload value starts no channel (62_pit.md R524). -/
theorem test_pit_no_reload :
    let p := { (Pit.reset.write 3 0xB6).c2 with trig := true }
    (p.step3 true 0).run = false ∧ ({ p with written := true, cr := 5 }.step3 true 0).run = true := by decide

/-- D-DMA-6: a decrementing channel wraps inside its page. -/
theorem test_dma_wraps :
    let h : DmaChannel := { baseAddr := 0, baseCnt := 1, curAddr := 0, curCnt := 1, dmode := 0x19, page := 2 }
    h.advance.curAddr = 0xFFFF := by decide

/-- D-PPI-7: the switches on port C of the 5160. -/
theorem test_ppi_switches :
    { Ppi.reset with pctrl := 0x99 }.readC { Params.reset with sw1 := 0x6D } false = 0x0D := by decide

/-- D-VID-4: the cursor address keeps 6 and 8 bits. -/
theorem test_crtc :
    let v := (((Video.reset.write false 4 0x0E).write false 5 0xFF).write false 4 0x0F).write false 5 0x50
    (v.crtc.r14, v.crtc.r15) = (0x3F, 0x50) := by decide

/-- X-20: port C reads through IN. -/
theorem test_in_port_c :
    let s := { at_ Cpu.reset [] with
      ppi := { Ppi.reset with pctrl := 0x99, pbOut := 0x4D }, params := { Params.reset with sw1 := 0x6D }
      pit := { Pit.reset with c2 := { Pit.reset.c2 with outv := true } }
      lines := { Lines.reset with out := 4 } }
    (ran (.inALIb 0x62) s).cpu.ax = 0x26 := by decide

/-- A port and a byte of memory the host answers itself (70_reset_and_hazards.md R712). -/
theorem test_handlers :
    let s := { at_ { Cpu.reset with dx := 0x301, ds := 0xD000 } [] with
      params := { Params.reset with extPorts := [⟨0x300, 2⟩], extMem := [⟨0xD0000, 16⟩] }
      host := { HostState.reset with extIn := [0x5A, 0x77] } }
    ((ran .inALDX s).cpu.ax, (ran .inALDX s).host.out, (ran .inALDX s).host.extIn)
      = (0x5A, [.extPortRead 0x301], [0x77]) ∧
    (ran (.movObAL 3) s).host.out = [.extMemWrite 0xD0003 0] ∧ (ran (.movALOb 0x10) s).cpu.ax = 0xFF := by decide

/-! ## Witnesses: for each statement with hypotheses, values that meet them, clause by clause -/

theorem witness_decode_encode :
    (Instr.addEbGb (.mem (.disp8 .bp 0)) .al).wf = true ∧ (Instr.movReg16Iv .ax 0xFFFF).wf = true := by decide

theorem witness_encode_decode : decode [0xB8, 0x34, 0x12, 0x90] = .ok (.movReg16Iv .ax 0x1234) [0x90] := by decide

theorem witness_no_encoding_rejected :
    longestInstr ≤ ([0xC7, 0x06, 0, 0, 0, 0] : List Byte).length ∧ longestInstr ≤ ([0xFF, 0xFF, 0, 0, 0, 0] : List Byte).length := by
  decide

/-- Counts 1, the width, and one more; L-11, L-15. -/
theorem witness_rotate :
    0 < 8 ∧ ShiftOp.rol.steps 8 (false, 0x81#8) = (true, 0x81) ∧ ShiftOp.rcl.steps 9 (true, 0x55#8) = (true, 0x55) ∧
    ShiftOp.ror.steps 1 (false, 0x1#1) = (true, 1) := by decide

/-- Counts 1, the width, and one more; L-20, L-21, L-24. -/
theorem witness_shift :
    0 < 8 ∧ ShiftOp.shl.steps 8 (false, 0xFF#8) = (true, 0) ∧ ShiftOp.shl.steps 9 (false, 0xFF#8) = (false, 0) ∧
    ShiftOp.shr.steps 8 (false, 0xFF#8) = (true, 0) ∧ ShiftOp.sar.steps 9 (false, 0x80#8) = (true, 0xFF) ∧
    ShiftOp.shl.steps 1 (false, 0x81#8) = (true, 2) := by decide

/-- OF after one place, at the least width and at that of a word; L-1. -/
theorem witness_shift_overflow :
    2 ≤ 2 ∧ ShiftOp.shl.overflow 0b01#2 0b10#2 false = true ∧ ShiftOp.sar.overflow 0x8000#16 0xC000#16 false = false := by decide

/-- The largest quotients; A-42, A-45, A-47, A-50. -/
theorem witness_divide :
    let byte := fun (i : Instr) (ax bx : Word) => (ran i (at_ { Cpu.reset with ax := ax, bx := bx } [])).cpu.ax
    let word := fun (i : Instr) (dx ax bx : Word) =>
      let c := (ran i (at_ { Cpu.reset with dx := dx, ax := ax, bx := bx } [])).cpu
      (c.ax, c.dx)
    byte (.divEb (.reg .bl)) 0xFEFF 0xFF = 0xFEFF ∧ (0xFEFF : Word).toNat / (0xFF : Byte).toNat ≤ 255 ∧
    word (.divEv (.reg .bx)) 1 0 2 = (0x8000, 0) ∧ 0x10000 / 2 ≤ 65535 ∧
    byte (.idivEb (.reg .bl)) 0x3F7F 0x7F = 0x7E7F ∧ byte (.idivEb (.reg .bl)) 0xC0FF 0x7F = 0x0081 ∧
    ((0xC0FF : Word).toInt.tdiv (0x7F : Byte).toInt = -127) ∧
    word (.idivEv (.reg .bx)) 0xFFFF 0x8001 1 = (0x8001, 0) ∧ (0xFFFF8001 : BitVec 32).toInt.tdiv 1 = -32767 := by decide +kernel

/-- A-41, A-43, A-40, A-46, A-48, A-49: the quotient one too large, and a divisor of 0, in each form. -/
theorem witness_divide_error :
    let errs := fun (i : Instr) (dx ax bx : Word) => (ran i (at_ { Cpu.reset with dx := dx, ax := ax, bx := bx } [])).cpu
    let entered := fun (c : Cpu) => (c.sp, c.flags.ifl)
    255 < (0xFFFF : Word).toNat / (0xFF : Byte).toNat ∧ entered (errs (.divEb (.reg .bl)) 0 0xFFFF 0xFF) = (0xFFFA, false) ∧
    entered (errs (.divEb (.reg .bl)) 0 0xFF 0) = (0xFFFA, false) ∧
    entered (errs (.divEv (.reg .bx)) 1 0 1) = (0xFFFA, false) ∧ entered (errs (.idivEb (.reg .bl)) 0 0x3F80 0x7F) = (0xFFFA, false) ∧
    entered (errs (.idivEb (.reg .bl)) 0 0xFF80 1) = (0xFFFA, false) ∧
    entered (errs (.idivEv (.reg .bx)) 0x8000 0 0xFFFF) = (0xFFFA, false) ∧
    (errs (.aam 0) 0 7 0).ax = 7 ∧ (errs (.divEv (.reg .bx)) 1 0 1).dx = 1 := by decide +kernel

/-- A-75. -/
theorem witness_aam : (0x10 : Byte) ≠ 0 ∧ (ran (.aam 0x10) (at_ { Cpu.reset with ax := 0x10 } [])).cpu.ax = 0x0100 := by decide

theorem witness_push_pop :
    (RM.mem (.direct 0x0200) : RM16) ≠ .reg .sp ∧ (RM.reg .ax : RM16) ≠ .reg .sp := by decide

/-- The ports beside the claimed ranges (20_memory.md R93). -/
theorem witness_unclaimed_ports : (State.reset.params.extPorts = [] ∧ ∃ r ∈ [AddrRange.mk 0x300 0x20], r.base ≤ 0x31F ∧ 0x31F < r.base + r.size) ∧ ([0x10, 0x1F, 0x22, 0x3F, 0x44, 0x5F, 0x64, 0x7F, 0x84, 0x3CF, 0x3E0, 0xFFFF] : List Word).all
    (fun p => decide (¬(p.toNat ≤ 0x0F ∨ (0x20 ≤ p.toNat ∧ p.toNat ≤ 0x21) ∨ (0x40 ≤ p.toNat ∧ p.toNat ≤ 0x43) ∨
      (0x60 ≤ p.toNat ∧ p.toNat ≤ 0x63) ∨ (0x80 ≤ p.toNat ∧ p.toNat ≤ 0x83) ∨ (0x3D0 ≤ p.toNat ∧ p.toNat ≤ 0x3DF)))) = true :=
  ⟨⟨rfl, ⟨_, .head _, by decide⟩⟩, by decide⟩

/-- A string instruction's state, with a repeat mark or without. -/
def stringState (mark : Option RepKind) (cx : Word) : State :=
  at_ { Cpu.reset with cx := cx, si := 0x100, di := 0x200, ip := 2, repMark := mark } [(0x100, 0x41), (0x101, 0x42), (0x200, 0x41)]

theorem witness_string_once : (stringState none 0).cpu.repMark = none := by decide

/-- S-9, S-13: CX 0, an end by the count, an end by ZF, and no end. -/
theorem witness_string_repeated :
    let s := fun cx => stringState (some .rep) cx
    (s 0).cpu.cx = 0 ∧ ran .cmpsb (s 0) = (s 0).ends [] (s 0).cpu ∧
    (s 1).cpu.cx ≠ 0 ∧ (ran .movsb (s 1)).cpu.repActive = none ∧
    (ran .cmpsb { s 5 with mem := [(0x100, 0x41)], cpu := { (s 5).cpu with di := 0x100 } }).cpu.repActive.isSome = true ∧
    (ran .cmpsb (stringState (some .repne) 5)).cpu.repActive = none ∧ (ran .movsb (s 2)).cpu.repActive.isSome = true := by decide

/-- CX 1 and 2, in both directions. -/
theorem witness_repeat_runs :
    let s := stringState (some .rep) 2
    let t := { s with cpu := { s.cpu with flags := { Flags.clear with df := true } } }
    s.cpu.repMark.isSome = true ∧ s.cpu.cx ≠ 0 ∧ (s.again .movsb 1).cpu.repActive.isSome = true ∧
    (s.again .movsb 2).cpu.si = 0x102 ∧ (t.again .movsw 2).cpu.di = 0x1FC ∧
    ((stringState (some .repne) 1).again .lodsb 1).cpu.repActive = none := by decide

theorem witness_repeat_fills :
    let s := stringState (some .rep) 2
    s.cpu.repMark = some .rep ∧ s.cpu.cx ≠ 0 ∧ backing s.params.ramSize (phys s.cpu.es (s.cpu.di + 1)) ≠ .rom ∧
    (s.again .stosb 2).peek 0x201 = 0 ∧ (s.again .stosb 2).peek 0x100 = 0x41 := by decide

/-- C-5, C-6: conditions that hold and conditions that do not. -/
theorem witness_conditional_jumps :
    let c := fun f => { Cpu.reset with flags := f, cx := 1 }
    let ip := fun (i : Instr) f => (ran i (at_ (c f) [])).cpu.ip
    let f := { Flags.clear with ovf := true }
    ip (.jcc .a 0x10) f = 0x10 ∧ ip (.jcc .l 0x10) f = 0x10 ∧ ip (.jcc .g 0x10) f = 0 ∧ ip (.jcc60 .b 0x10) f = 0 ∧
    ip (.loop 0x10) f = 0 ∧ ip (.jcxz 0x10) f = 0 := by decide

theorem witness_interrupts :
    { Flags.clear with ovf := true }.ovf = true ∧ Flags.clear.ovf = false ∧ (ran .into (at_ Cpu.reset [])).cpu.sp = 0 := by decide

/-- A frame in RAM, at the top of the stack segment and in the middle. -/
theorem witness_entry_then_return :
    (∀ k : Fin 6, backing 0xA0000 (phys 0x2000 (0x0100 - BitVec.ofNat 16 (k.val + 1))) ≠ .rom) ∧
    (∀ k : Fin 6, backing 0xA0000 (phys 0x2000 (0x0000 - BitVec.ofNat 16 (k.val + 1))) ≠ .rom) ∧
    (let s := at_ { Cpu.reset with ss := 0x2000, sp := 0x100, ip := 0x1234, flags := Flags.ofImage 0xFFFF } []
     (ran .iret (s.entered 8 s.cpu.ip s.cpu)).cpu = s.cpu) := by decide

theorem witness_flag_control :
    (ran .sti (at_ Cpu.reset [])).cpu.inhibit = .maskable ∧
    (ran .sti (at_ { Cpu.reset with flags := { Flags.clear with ifl := true } } [])).cpu.inhibit = .none := by decide

theorem witness_processor_control :
    (ran .wait (at_ Cpu.reset [])).cpu.waiting = true ∧
    (ran .wait { at_ { Cpu.reset with waiting := true } [] with lines := { Lines.reset with test := true } }).cpu.waiting = false := by
  decide

theorem witness_undefined : isUndefined (.undefFF7 (.reg .ax)) = true ∧ isUndefined (.undefLea .ax .ax) = true := by decide

theorem witness_access_frame :
    let rs : List BusReq := [.memR 0, .memW 0xB8000 7, .code 0xFFFF0]
    (∀ r ∈ rs, r.isMemory = true) ∧ cellKey 0xBC000 = cellKey 0xB8000 ∧ cellKey 0xB8001 ≠ cellKey 0xB8000 ∧
    (State.reset.performs rs).peek 0xBC000 = 7 ∧ (∀ r ∈ rs, ∀ a, r.addr = some a → State.reset.externalAt a = false) :=
  ⟨by decide, by decide, by decide, by decide, by intro r _ a _; rfl⟩

/-- The last byte of RAM, the edges of the video window, the first byte after it, and a word at the top of a segment. -/
theorem witness_read_after_write :
    backing 0xA0000 0x9FFFF = .ram ∧ backing 0xA0000 0xB8000 = .video ∧ backing 0xA0000 0xBFFFF = .video ∧
    backing 0xA0000 0xC0000 = .rom ∧ backing 0xA0000 0xA0000 = .rom ∧
    (0xB8000 ≤ (0xBBFFF : Addr).toNat ∧ (0xBBFFF : Addr).toNat < 0xBC000) ∧
    backing 0xA0000 (phys 0x1000 0xFFFF) ≠ .rom ∧ backing 0xA0000 (phys 0x1000 (0xFFFF + 1)) ≠ .rom ∧
    (State.reset.performs (wordWrites 0x1000 0xFFFF 0x1234)).word 0x1000 0xFFFF = 0x1234 ∧
    (let s := { State.reset with params := { Params.reset with extMem := [⟨0xA0000, 0x100⟩] } }
     s.externalAt 0xA00FF = true ∧ s.externalAt 0xA0100 = false ∧ s.externalAt 0x9FFFF = false) := by decide

/-- The four ways a step begins: decoding, a halt, an iteration, a WAIT; and decoding between a mark and what follows. -/
theorem witness_step_runs_decoded :
    let s := coded { Cpu.reset with cs := 0x4000 } [0x90]
    let put := fun c : Cpu => { s with cpu := c }
    (s.eu.prog = .idle ∧ s.choose = none ∧ s.cpu.midUnit = false ∧ s.cpu.halted = false ∧ s.cpu.waiting = false ∧
      s.cpu.repActive = none) ∧
    (coded { Cpu.reset with cs := 0x4000 } [0x90, 1, 2, 3, 4, 5]).window = [0x90, 1, 2, 3, 4, 5] ∧
    decode [0x90, 1, 2, 3, 4, 5] = .ok .nop [1, 2, 3, 4, 5] ∧
    (put { Cpu.reset with repMark := some .rep }).cpu.midUnit = true ∧
    ((put { Cpu.reset with halted := true }).choose = none ∧ { Cpu.reset with halted := true }.midUnit = false) ∧
    ((put { Cpu.reset with repActive := some ⟨.rep, 0xA4, 0⟩ }).choose = none ∧ stringCode .movs false = 0xA4) ∧
    ((put { Cpu.reset with waiting := true }).choose = none ∧ { Cpu.reset with waiting := true }.repActive = none ∧
      (put { Cpu.reset with waiting := true, tfAtStart := true }).choose = some .step) ∧
    ((put { Cpu.reset with lockMark := true }).cpu.midUnit = true ∧ { Biu.reset with t := .th }.t = .th) ∧
    s.host.byTick = false ∧ s.host.gaps = [] ∧ { s.host with byTick := true, gaps := [0] }.gaps ≠ [] := by decide

/-- The last byte ahead that a load of CS leaves open, and that a store leaves open; no host handler is at either address. -/
theorem witness_step_runs_decoded_ahead :
    let s := (coded { Cpu.reset with cs := 0x1000, ax := 0x2000 } [0x8E, 0xC8]).consume 2
    let u := ran (.movSwEw .cs (.reg .ax)) s
    let r := (coded { Cpu.reset with cs := 0x4000, ds := 0x4000 } [0xC6, 0x06, 0x08, 0x00, 0x43]).consume 5
    (s.unsettled u 3 = true ∧ s.storesAhead u 3 = false ∧ s.unsettled u 4 = false) ∧
    (u.externalAt (s.aheadAddr 3) = false ∧ u.externalAt (u.aheadAddr 3) = false) ∧
    (r.storesAhead (ran (.movEbIb (.mem (.direct 8)) 0x43) r) 3 = true ∧
      r.storesAhead (ran (.movEbIb (.mem (.direct 8)) 0x43) r) 2 = false) := by decide

/-- Each thing that can be recognised, and none. -/
theorem witness_recognition :
    let s := State.reset
    let on : Flags := { Flags.clear with ifl := true }
    let request := fun (i : Inhibit) => { s with
      cpu := { Cpu.reset with flags := on, inhibit := i }, lines := { Lines.reset with intr := true } }
    s.eu.prog = .idle ∧ s.host.byTick = false ∧ s.cpu.midUnit = false ∧ s.choose = none ∧
    { s with cpu := { Cpu.reset with stepPending := true } }.choose = some .step ∧
    { s with nmi := { latch := true, prev := true } }.choose = some .nmi ∧
    { s with nmi := { latch := true, prev := true }, cpu := { Cpu.reset with inhibit := .all } }.choose = none ∧
    (request .none).choose = some .maskable ∧ (request .maskable).choose = none ∧
    (let w := { s with cpu := { Cpu.reset with waiting := true, tfAtStart := true } }
     { s with lines := { Lines.reset with nmi := true } }.choose = some .nmi ∧
     w.cpu.midUnit = false ∧ w.waitPasses = false ∧ { w with lines := { Lines.reset with test := true } }.waitPasses = true) ∧
    { s with cpu := { Cpu.reset with tfAtStart := true } }.choose = some .step := by decide

theorem witness_time_passes :
    (∀ x ∈ State.reset.host.inputs, x.reset = false) ∧ ∃ t, State.reset.pass false 1 = .next t := ⟨by decide, _, rfl⟩

/-- A halted machine with a full queue, and a vector base. -/
def haltedState : State :=
  { State.reset with
    cpu := { Cpu.reset with halted := true }, biu := { Biu.reset with q := [1, 2, 3, 4] }, pic := { Pic.reset with vbase := 8 }
    mem := [(0x100, 7), (0xFFFF0, 0xEA)] }

theorem witness_inv : Inv haltedState where
  mem := by decide
  biu := .intro (by decide) (.intro (by intro x h; cases h) (.intro (by decide) (by intro r h; cases h)))
  dma := by intro h; cases h
  vbase := by decide
  phase := by decide

/-- RESET in a tick of a machine with bytes in RAM and in ROM. -/
theorem witness_reset_event :
    let s := { at_ { Cpu.reset with ax := 5, halted := true } [(0x100, 7), (0xFFFF0, 0xEA)] with
      host := { HostState.reset with
        inputs := [{ irq := 0, dreq := 0, nmi := false, test := true, scancode := some 0x1E, reset := true }] } }
    Memory.wf s.params.ramSize s.mem = true ∧ s.resetDue = true ∧
    s.input.bind (·.scancode) = some 0x1E ∧ (landed s s.tick).host.out = [.scancodeRefused 0x1E] ∧
    (landed s s.tick).mem = [(0xFFFF0, 0xEA)] ∧ (landed s s.tick).cpu = Cpu.reset := by decide +kernel

/-- D-PIC-12 and E-9: an acknowledged line, and none. -/
theorem witness_pic_acknowledge :
    let p := { Pic.reset with imr := 0, imrEff := 0, vbase := 8, irr := 1, aeoi := true }
    let s := { State.reset with pic := p }
    let second := fun s : State => (s.perform .inta).2.perform .inta
    p.intaPhase = false ∧ p.selected = some 0 ∧ ((second s).1, (second s).2.pic.isr) = (8, 0) ∧
    Pic.reset.selected = none ∧ (second State.reset).1 = 7 := by decide

/-- Mode 2 with 3 and with 65536; mode 0 with 1 and with 65536. -/
theorem witness_timer_counts :
    let m2 := fun n : Word => { PitChannel.reset with mode := some .m2, run := true, outv := true, cr := n, ce := n, written := true }
    let m0 := fun n : Word => { PitChannel.reset with mode := some .m0, load := true, cr := n, written := true }
    (m2 3).number = 3 ∧ (m2 0).number = 65536 ∧ (m2 3).cr ≠ 1 ∧ (m2 0).cr ≠ 1 ∧ (m2 3).after 0 false 3 = m2 3 ∧
    ((m2 3).after 0 false 2).outv = false ∧ ((m0 1).after 0 false 2).outv = true ∧ ((m0 1).after 0 false 1).outv = false ∧
    ((m0 0).after 0 false 1).ce = 0 := by decide

/-- D-DMA-1, D-DMA-2, D-DMA-5: counts 2 and 0, with self-reload and without. -/
theorem witness_dma_counts :
    let h : DmaChannel := { baseAddr := 0x1000, baseCnt := 2, curAddr := 0x1000, curCnt := 2, dmode := 0x11, page := 2 }
    let a := { h with dmode := 0x15 }
    2 ≤ h.curCnt.toNat ∧ (h.after 2).curCnt = 0 ∧ (h.after 3).curCnt = 0xFFFF ∧ (h.after 3).curAddr = 0x1003 ∧
    a.after 3 = a ∧ (Dma.reset.channel 1).curCnt = 0 ∧ (Dma.reset.advance 4 1).tcBits = 2 := by decide

/-- D-PPI-5: a scancode that is accepted, and the bit that empties the register. -/
theorem witness_keyboard :
    let p := { Ppi.reset with pctrl := 0x99, pbOut := 0x4D }
    p.accepts = true ∧ (p.scancode 0x1E).accepts = false ∧ (p.scancode 0x1E).readA Params.reset = 0x1E ∧
    { p with pbOut := 0xCD }.pb 7 = true := by decide

/-- Lines of one and of three character clocks. -/
theorem witness_scanline :
    let v := { Video.reset with crtc := { Video.reset.crtc with r0 := 2, r4 := 9 } }
    v.hcc = 0 ∧ Video.reset.hcc = 0 ∧ (v.after 2).hcc = 2 ∧ (v.after 3).hcc = 0 ∧ (v.after 3).lineNo = 1 ∧
    (Video.reset.after 1).hcc = 0 := by decide

end Sys2Proof.Tests
end

section
/-!
The flags of addition and subtraction, and the image of FLAGS (10_state.md R15, R20 to R23).
-/
namespace Sys2Proof.Machine

/-! ## SetSZP -/

theorem bitOf_eq_toNat (b : Bool) : bitOf b = b.toNat := by cases b <;> rfl

/-- The sum modulo 2 of bits is their exclusive or. -/
theorem decide_even_length_filter (p : Nat → Bool) (l : List Nat) :
    decide ((l.filter p).length % 2 = 0) = !l.foldr (fun i acc => p i ^^ acc) false := by
  induction l with
  | nil => rfl
  | cons i l ih =>
    rw [List.foldr_cons, ← Bool.xor_not, ← ih]
    cases hp : p i
    · simp [hp]
    · simp only [List.filter_cons, hp, if_true, List.length_cons, Bool.true_xor, ← decide_not, decide_eq_decide]
      omega

theorem parity_eq_even_onesBelow8 {n : Nat} (v : BitVec n) : parity v = decide (onesBelow8 v % 2 = 0) := by
  rw [onesBelow8, decide_even_length_filter]
  simp [parity, List.range_succ]

theorem Flags.setSzp_eq_withSzp {n : Nat} (f : Flags) (r : BitVec n) : f.setSzp r = f.withSzp r := by
  have hz : decide (r = 0) = decide (r.toNat = 0) := by simp [BitVec.toNat_eq]
  rw [Flags.setSzp, Flags.withSzp, hz, BitVec.msb_eq_getLsbD_last, parity_eq_even_onesBelow8]

/-! ## The exact results -/

theorem addWith_eq_ofNat {n : Nat} (a b : BitVec n) (cin : Bool) :
    addWith a b cin = BitVec.ofNat n (a.toNat + b.toNat + bitOf cin) := by
  simp [addWith, BitVec.ofNat_add]

theorem subWith_eq_ofInt {n : Nat} (a b : BitVec n) (bin : Bool) :
    subWith a b bin = BitVec.ofInt n (a.toNat - b.toNat - bitOf bin) := by
  have hb : BitVec.ofInt n b.toNat = b := by simp [BitVec.ofInt_natCast]
  rw [subWith, sub_eq_iff_eq_add, sub_eq_iff_eq_add, ← BitVec.ofInt_natCast]
  nth_rw 2 [← hb]
  rw [← BitVec.ofInt_add, ← BitVec.ofInt_add, sub_add_cancel, sub_add_cancel]
  simp [BitVec.ofInt_natCast]

/-- A difference is what, with the borrow, adds up to the minuend. -/
theorem addWith_subWith {n : Nat} (a b : BitVec n) (bin : Bool) : addWith (subWith a b bin) b bin = a := by
  rw [addWith, subWith]; ring

/-! ## The auxiliary carry -/

/-- Bit 4 of `a ^ b ^ r` is the carry out of the low four bits (10_state.md R22). -/
theorem getLsbD_four_xor_addWith {n : Nat} (hn : 4 < n) (a b : BitVec n) (cin : Bool) :
    (a ^^^ b ^^^ addWith a b cin).getLsbD 4 = decide (16 ≤ a.toNat % 16 + b.toNat % 16 + bitOf cin) := by
  have hc : BitVec.ofNat n (bitOf cin) = (BitVec.ofBool cin).setWidth n := by
    apply BitVec.eq_of_toNat_eq
    simp [bitOf_eq_toNat]
  have hcarry : BitVec.carry 4 a b cin = decide (16 ≤ a.toNat % 16 + b.toNat % 16 + bitOf cin) := by
    simp [BitVec.carry, bitOf_eq_toNat]
  rw [← hcarry, addWith, hc, BitVec.getLsbD_xor, BitVec.getLsbD_xor, BitVec.getLsbD_add_add_bool hn]
  cases a.getLsbD 4 <;> cases b.getLsbD 4 <;> simp

/-- Four bits carry when the low four bits of the sum are less than those of a summand and the carry in. -/
theorem nibble_carry_iff {n : Nat} (hn : 4 ≤ n) (a b : BitVec n) (cin : Bool) :
    16 ≤ a.toNat % 16 + b.toNat % 16 + bitOf cin ↔ (addWith a b cin).toNat % 16 < b.toNat % 16 + bitOf cin := by
  have hdvd : 16 ∣ 2 ^ n := Nat.pow_dvd_pow 2 hn
  have hcin := bitOf_eq_toNat cin ▸ cin.toNat_lt
  rw [addWith_eq_ofNat, BitVec.toNat_ofNat, Nat.mod_mod_of_dvd _ hdvd]
  omega

/-- Bit 4 of `a ^ b ^ r` is the borrow out of the low four bits (10_state.md R23). -/
theorem getLsbD_four_xor_subWith {n : Nat} (hn : 4 < n) (a b : BitVec n) (bin : Bool) :
    (a ^^^ b ^^^ subWith a b bin).getLsbD 4 = decide (a.toNat % 16 < b.toNat % 16 + bitOf bin) := by
  have hcarry := getLsbD_four_xor_addWith hn (subWith a b bin) b bin
  have hborrow := nibble_carry_iff (Nat.le_of_lt hn) (subWith a b bin) b bin
  rw [addWith_subWith] at hcarry hborrow
  have hswap : a ^^^ b ^^^ subWith a b bin = subWith a b bin ^^^ b ^^^ a := by
    rw [BitVec.xor_comm, ← BitVec.xor_assoc, BitVec.xor_assoc, BitVec.xor_comm a, ← BitVec.xor_assoc]
  rw [hswap, hcarry, decide_eq_decide, hborrow]

/-! ## AddFlags and SubFlags -/

theorem Flags.add_af {n : Nat} (f : Flags) (a b : BitVec n) (cin : Bool) :
    (f.add a b cin).af = decide (16 ≤ a.toNat % 16 + b.toNat % 16 + bitOf cin) := rfl

theorem Flags.sub_af {n : Nat} (f : Flags) (a b : BitVec n) (bin : Bool) :
    (f.sub a b bin).af = decide (a.toNat % 16 < b.toNat % 16 + bitOf bin) := rfl

theorem Flags.add_eq_afterAdd {n : Nat} (hn : 4 < n) (f : Flags) (a b : BitVec n) (cin : Bool) :
    f.add a b cin = f.afterAdd a b (BitVec.ofNat n (a.toNat + b.toNat + bitOf cin)) (bitOf cin) := by
  rw [← addWith_eq_ofNat, Flags.add, Flags.afterAdd, Flags.setSzp_eq_withSzp, getLsbD_four_xor_addWith hn]
  simp only [BitVec.msb_eq_getLsbD_last, Bool.decide_and]

theorem Flags.sub_eq_afterSub {n : Nat} (hn : 4 < n) (f : Flags) (a b : BitVec n) (bin : Bool) :
    f.sub a b bin = f.afterSub a b (BitVec.ofInt n (a.toNat - b.toNat - bitOf bin)) (bitOf bin) := by
  rw [← subWith_eq_ofInt, Flags.sub, Flags.afterSub, Flags.setSzp_eq_withSzp, getLsbD_four_xor_subWith hn]
  simp only [BitVec.msb_eq_getLsbD_last, Bool.decide_and]

/-- Settles O5, by the rules of addition and subtraction at every width above four bits. -/
theorem addSubFlags : Obligations.AddSubFlags := by
  exact ⟨fun f a b c => ⟨f.add_eq_afterAdd (by decide) a b c, f.add_af a b c,
      f.sub_eq_afterSub (by decide) a b c, f.sub_af a b c⟩,
    fun f a b c => ⟨f.add_eq_afterAdd (by decide) a b c, f.add_af a b c,
      f.sub_eq_afterSub (by decide) a b c, f.sub_af a b c⟩⟩

/-! ## The image of FLAGS -/

/-- The sixteen bits of the image, the lowest first (10_state.md R15). -/
def Flags.imageBits (f : Flags) : List Bool :=
  [f.cf, true, f.pf, false, f.af, false, f.zf, f.sf, f.tf, f.ifl, f.df, f.ovf, true, true, true, true]

theorem toNat_ofBoolListLE_nil : (BitVec.ofBoolListLE []).toNat = 0 := rfl

theorem toNat_ofBoolListLE_cons (b : Bool) (bs : List Bool) :
    (BitVec.ofBoolListLE (b :: bs)).toNat = (BitVec.ofBoolListLE bs).toNat * 2 + b.toNat :=
  BitVec.toNat_concat _ _

theorem Flags.image_eq_ofBoolListLE (f : Flags) : f.image = (BitVec.ofBoolListLE f.imageBits).setWidth 16 := by
  apply BitVec.eq_of_toNat_eq
  rw [Flags.image, BitVec.toNat_ofNat, BitVec.toNat_setWidth]
  congr 1
  simp only [Flags.imageBits, toNat_ofBoolListLE_nil, toNat_ofBoolListLE_cons, bitOf_eq_toNat,
    Bool.toNat_true, Bool.toNat_false]
  omega

theorem Flags.getLsbD_image (f : Flags) {i : Nat} (hi : i < 16) : f.image.getLsbD i = f.imageBits.getD i false := by
  rw [Flags.image_eq_ofBoolListLE, BitVec.getLsbD_setWidth, BitVec.getLsbD_ofBoolListLE]
  simp [hi]

@[simp] theorem Flags.ofImage_image (f : Flags) : Flags.ofImage f.image = f := by
  simp only [Flags.ofImage, Flags.getLsbD_image, Nat.reduceLT]
  rfl

theorem Flags.image_ofImage (v : Word) : (Flags.ofImage v).image = (v &&& 0x0FD5) ||| 0xF002 := by
  apply BitVec.eq_of_getLsbD_eq
  intro i hi
  rw [Flags.getLsbD_image _ hi]
  interval_cases i <;> simp [Flags.imageBits, Flags.ofImage]

/-- Settles O6, by the list of the image's bits. -/
theorem flagsImage : Obligations.FlagsImage := by
  refine ⟨fun f => ?_, Flags.ofImage_image, Flags.image_ofImage, rfl⟩
  simp [-BitVec.getLsbD_eq_getElem, Flags.getLsbD_image, Flags.imageBits]

end Sys2Proof.Machine
end

section
/-!
Every opcode byte has a row in the table, so enough bytes always decode (30_encoding.md R129, R140, R147).
-/
namespace Sys2Proof

/-- A part of the decoder that answers an instruction whenever it is given `n` bytes. -/
def Parse.CompleteIn (n : Nat) (p : Parse) : Prop := ∀ bs : List Byte, n ≤ bs.length → ∃ i rest, p bs = .ok i rest

@[simp] theorem completeIn_emit (n : Nat) (i : Instr) : (emit i).CompleteIn n := fun bs _ => ⟨i, bs, rfl⟩

@[simp] theorem completeIn_withByte (n : Nat) (k : Byte → Parse) :
    (withByte k).CompleteIn (n + 1) ↔ ∀ b, (k b).CompleteIn n := by
  constructor
  · intro h b bs hbs
    exact h (b :: bs) (Nat.succ_le_succ hbs)
  · intro h bs hbs
    cases bs with
    | nil => simp at hbs
    | cons b bs => exact h b bs (Nat.le_of_succ_le_succ hbs)

@[simp] theorem completeIn_withWord (n : Nat) (k : Word → Parse) (h : ∀ w, (k w).CompleteIn n) :
    (withWord k).CompleteIn (n + 2) := by
  simp [withWord, h]

theorem Parse.CompleteIn.mono {n m : Nat} {p : Parse} (h : p.CompleteIn n) (hnm : n ≤ m) : p.CompleteIn m :=
  fun bs hbs => h bs (hnm.trans hbs)

/-- A ModRM byte brings at most two bytes of displacement (30_encoding.md R125). -/
@[simp] theorem completeIn_withModRM (n : Nat) (k : Oct → RM Oct → Parse) (hreg : ∀ g r, (k g (.reg r)).CompleteIn n)
    (hmem : ∀ g m, (k g (.mem m)).CompleteIn n) : (withModRM k).CompleteIn (n + 3) := by
  refine (completeIn_withByte (n + 2) _).2 fun b => ?_
  dsimp only
  split
  · split
    · exact completeIn_withWord n _ fun d => hmem _ _
    · exact (hmem _ _).mono (by omega)
  · exact (completeIn_withByte (n + 1) _).2 fun d => (hmem _ _).mono (by omega)
  · exact completeIn_withWord n _ fun d => hmem _ _
  · exact (hreg _ _).mono (by omega)

/-! ## The groups of opcodes that ModRM `reg` tells apart: at most a word follows ModRM -/

@[simp] theorem completeIn_group80 (g : Oct) (e : RM Oct) : (group80 g e).CompleteIn 2 := by cases g <;> simp [group80]
@[simp] theorem completeIn_group81 (g : Oct) (e : RM Oct) : (group81 g e).CompleteIn 2 := by cases g <;> simp [group81]
@[simp] theorem completeIn_group82 (g : Oct) (e : RM Oct) : (group82 g e).CompleteIn 2 := by cases g <;> simp [group82]
@[simp] theorem completeIn_group83 (g : Oct) (e : RM Oct) : (group83 g e).CompleteIn 2 := by cases g <;> simp [group83]
@[simp] theorem completeIn_group8F (g : Oct) (e : RM Oct) : (group8F g e).CompleteIn 2 := by cases g <;> simp [group8F]
@[simp] theorem completeIn_groupC6 (g : Oct) (e : RM Oct) : (groupC6 g e).CompleteIn 2 := by cases g <;> simp [groupC6]
@[simp] theorem completeIn_groupC7 (g : Oct) (e : RM Oct) : (groupC7 g e).CompleteIn 2 := by cases g <;> simp [groupC7]
@[simp] theorem completeIn_groupD0 (g : Oct) (e : RM Oct) : (groupD0 g e).CompleteIn 2 := by cases g <;> simp [groupD0]
@[simp] theorem completeIn_groupD1 (g : Oct) (e : RM Oct) : (groupD1 g e).CompleteIn 2 := by cases g <;> simp [groupD1]
@[simp] theorem completeIn_groupD2 (g : Oct) (e : RM Oct) : (groupD2 g e).CompleteIn 2 := by cases g <;> simp [groupD2]
@[simp] theorem completeIn_groupD3 (g : Oct) (e : RM Oct) : (groupD3 g e).CompleteIn 2 := by cases g <;> simp [groupD3]
@[simp] theorem completeIn_groupF6 (g : Oct) (e : RM Oct) : (groupF6 g e).CompleteIn 2 := by cases g <;> simp [groupF6]
@[simp] theorem completeIn_groupF7 (g : Oct) (e : RM Oct) : (groupF7 g e).CompleteIn 2 := by cases g <;> simp [groupF7]
@[simp] theorem completeIn_groupFE (g : Oct) (e : RM Oct) : (groupFE g e).CompleteIn 2 := by cases g <;> simp [groupFE]
@[simp] theorem completeIn_groupFF (g : Oct) (e : RM Oct) : (groupFF g e).CompleteIn 2 := by
  cases g <;> cases e <;> simp [groupFF]

/-! ## The map: at most five bytes follow the opcode -/

theorem completeIn_decodeQuarter0 (m l : Oct) : (decodeQuarter0 m l).CompleteIn 5 := by
  unfold decodeQuarter0
  split <;> simp

theorem completeIn_decodeQuarter1 (m l : Oct) : (decodeQuarter1 m l).CompleteIn 5 := by
  unfold decodeQuarter1
  split <;> simp

theorem completeIn_decodeQuarter2 (m l : Oct) : (decodeQuarter2 m l).CompleteIn 5 := by
  unfold decodeQuarter2
  split <;> simp

theorem completeIn_decodeQuarter3 (m l : Oct) : (decodeQuarter3 m l).CompleteIn 5 := by
  unfold decodeQuarter3
  split <;> simp

theorem completeIn_decodeOpcode (op : Byte) : (decodeOpcode op).CompleteIn 5 := by
  unfold decodeOpcode
  dsimp only
  split
  · exact completeIn_decodeQuarter0 _ _
  · exact completeIn_decodeQuarter1 _ _
  · exact completeIn_decodeQuarter2 _ _
  · exact completeIn_decodeQuarter3 _ _

/-- Six bytes always hold an instruction or a mark. -/
theorem completeIn_decode : Parse.CompleteIn longestInstr decode :=
  (completeIn_withByte 5 _).2 completeIn_decodeOpcode

end Sys2Proof
end

section
/-!
Every step from a safe state is a next state and safe: first for the one tick of the whole block, then for each part of a
Level A step.
-/
namespace Sys2Proof.Machine

/-! ## A tick -/

/-- The queue has room for every code byte on its way (50_pipeline_bus_timing.md R387). -/
theorem Inv.overrun_eq_false {s : State} (m : Inv s) : s.biu.overrun = false := by
  obtain ⟨-, hroom, -, -⟩ := m.biu
  unfold Biu.overrun
  cases hx : s.biu.cur with
  | none => simp
  | some x =>
    by_cases hlive : x.req.cycle = .code ∧ x.discard = false
    · have hfull : ¬Config.queueSize ≤ s.biu.q.length := Nat.not_le.2 (hroom x hx hlive.1 hlive.2)
      simp [hfull]
    · simp_all

/-- A transfer in progress has the bus granted to it (63_dma.md R601). -/
theorem Inv.collision_eq_false {s : State} (m : Inv s) : s.collision = false := by
  unfold State.collision
  cases ha : s.dma.active.isSome with
  | false => simp
  | true => rw [(m.dma ha).1]; rfl

theorem Inv.tickWith_eq {s : State} (m : Inv s) (eu : State → State) : s.tickWith eu = .next (s.tickBody eu) := by
  simp [State.tickWith, m.overrun_eq_false, m.collision_eq_false]

/-- Soundness between the devices' steps and the lines of a tick: HRQ does not yet show the new state of the DMA controller. -/
structure BeforeLines (s : State) : Prop where
  mem : Memory.wf s.params.ramSize s.mem = true
  biu : s.biu.sound
  granted : s.dma.active.isSome = true → s.biu.t = .th
  vbase : s.pic.vbase &&& 7 = 0
  phase : s.pit.phase < Config.pitDiv

/-- A transfer that goes on has HRQ standing, so the next-state selection has kept the grant (50_pipeline_bus_timing.md R377,
63_dma.md R598). -/
theorem Mid.beforeLines {s : State} (m : Mid s) : BeforeLines (s.nextT.deviceTicks (decide (s.biu.t = .th))) := by
  have k := nextT_keeps s
  obtain ⟨hsound, hgrant⟩ := nextT_sound s m
  have hold : DmaOld s.nextT.dma s.biu.t s.nextT.lines.hrq := by rw [k.dma, k.lines]; exact m.dma
  obtain ⟨dev, hvbase, hphase, hactive⟩ := deviceTicks_dev s.nextT _ s.biu.t rfl hold
  rw [k.lines] at hactive
  exact {
    mem := dev.mem (by rw [k.params, k.mem]; exact m.mem)
    biu := by rw [dev.biu]; exact hsound
    granted := fun ha => by rw [dev.biu]; exact hgrant (hactive ha).1 (hactive ha).2
    vbase := by rw [hvbase, k.pic]; exact m.vbase
    phase := hphase }

/-- The keyboard reaches only the parallel I/O chip and the host (64_ppi.md R631). -/
theorem keyboard_eq (s : State) : ∃ p h, s.keyboard = { s with ppi := p, host := h } := by
  unfold State.keyboard
  split
  · exact ⟨s.ppi, s.host, rfl⟩
  · split
    · exact ⟨_, s.host, rfl⟩
    · exact ⟨s.ppi, _, rfl⟩

theorem Inv.keyboard {s : State} (m : Inv s) : Inv s.keyboard := by
  obtain ⟨p, h, e⟩ := keyboard_eq s
  rw [e]
  exact ⟨m.mem, m.biu, m.dma, m.vbase, m.phase⟩

theorem BeforeLines.keyboard {s : State} (m : BeforeLines s) : BeforeLines s.keyboard := by
  obtain ⟨p, h, e⟩ := keyboard_eq s
  rw [e]
  exact ⟨m.mem, m.biu, m.granted, m.vbase, m.phase⟩

theorem Inv.dropInput {s : State} (m : Inv s) : Inv s.dropInput := ⟨m.mem, m.biu, m.dma, m.vbase, m.phase⟩

/-- While a transfer is in progress HRQ stands until its release point (63_dma.md R598). -/
theorem Dma.hrq_of_active {d : Dma} (h : d.active.isSome = true) (dreq : BitVec 4) :
    d.hrq dreq = (decide (1 < d.dticks) || d.blockHold) := by
  obtain ⟨c, hc⟩ := Option.isSome_iff_exists.1 h
  simp [Dma.hrq, hc]

/-- The lines of a tick show the new state of every driver, so the DMA controller is sound again. -/
theorem BeforeLines.endTick {s : State} (m : BeforeLines s) (hlda : Bool) : Inv (s.endTick hlda) := by
  obtain ⟨hmem, hbiu, hgranted, hvbase, hphase⟩ := m.keyboard
  exact Inv.dropInput ⟨hmem, hbiu, fun ha => ⟨hgranted ha, Dma.hrq_of_active ha _⟩, hvbase, hphase⟩

/-- The RESET event leaves a safe state (70_reset_and_hazards.md R700). -/
theorem restart_inv {s : State} (h : Memory.wf s.params.ramSize s.mem = true) : Inv s.restart where
  mem := Memory.wf_keepRom _ _ h
  biu := ⟨Nat.zero_le _, nofun, rfl, nofun⟩
  dma := nofun
  vbase := BitVec.zero_and
  phase := Nat.zero_lt_succ 3

theorem BeforeLines.afterEvents {s : State} (m : BeforeLines s) (hlda : Bool) :
    Inv (if s.resetDue then s.restart.keyboard.dropInput else s.endTick hlda) := by
  split
  · exact (restart_inv m.mem).keyboard.dropInput
  · exact m.endTick hlda

/-- A tick keeps the invariant, whatever the execution unit does in it within its bounds (50_pipeline_bus_timing.md R371). -/
theorem Inv.tickBody {s : State} (m : Inv s) {eu : State → State} (heu : ∀ t, CpuRel t (eu t)) : Inv (s.tickBody eu) := by
  have hsampled : Inv { s.sampleNmi with biu := { s.biu with boundary := false } } := ⟨m.mem, m.biu, m.dma, m.vbase, m.phase⟩
  obtain ⟨hmid, hlabel, -⟩ := biuPhase_mid _ hsampled
  have hwork := heu (State.biuPhase { s.sampleNmi with biu := { s.biu with boundary := false } })
  have hdevices := (hwork.mid hmid).beforeLines
  rw [hwork.label.trans hlabel] at hdevices
  exact hdevices.afterEvents _

/-! ## A Level A step -/

/-- A step goes on in a safe state: no fault and no refusal is reached. -/
def GoesOn (o : Host.Outcome State Fault Refusal) : Prop := ∃ t, o = .next t ∧ Inv t

theorem Inv.goesOn {s : State} (m : Inv s) : GoesOn (.next s) := ⟨s, rfl, m⟩

theorem Inv.tickWith {s : State} (m : Inv s) {eu : State → State} (heu : ∀ t, CpuRel t (eu t)) : GoesOn (s.tickWith eu) :=
  ⟨_, m.tickWith_eq eu, m.tickBody heu⟩

/-- Ticks in which the execution unit does nothing, then what goes on safely. -/
theorem Inv.afterTicks {s : State} (m : Inv s) (n : Nat) {k : State → Host.Outcome State Fault Refusal}
    (hk : ∀ t, Inv t → GoesOn (k t)) : GoesOn (s.afterTicks n k) := by
  induction n generalizing s with
  | zero => exact hk s m
  | succ n ih =>
    have hnext : Inv (s.tickBody id) := m.tickBody CpuRel.refl
    rw [State.afterTicks, m.tickWith_eq]
    dsimp only
    split
    · exact hnext.goesOn
    · exact ih hnext

theorem Inv.noteBoundary {s : State} (m : Inv s) (b : Bool) : Inv (s.noteBoundary b) := by
  unfold State.noteBoundary
  split
  · exact (atBoundary_rel s).inv m
  · exact ⟨m.mem, m.biu, m.dma, m.vbase, m.phase⟩

theorem Inv.pass {s : State} (m : Inv s) (b : Bool) (n : Nat) : GoesOn (s.pass b n) :=
  m.afterTicks n fun _ mt => (mt.noteBoundary b).goesOn

theorem Inv.withCpuHost {s : State} (m : Inv s) (c : Cpu) (h : HostState) : Inv { s with cpu := c, host := h } :=
  ⟨m.mem, m.biu, m.dma, m.vbase, m.phase⟩

theorem Inv.finish {s : State} (m : Inv s) (n : Nat) (b : Bool) : GoesOn (s.finish n b) :=
  (m.withCpuHost _ _).pass _ _

theorem Inv.pause {s : State} (m : Inv s) (c : Cpu) {k : State → Host.Outcome State Fault Refusal}
    (hk : ∀ t, Inv t → GoesOn (k t)) : GoesOn (s.pause c k) :=
  (m.withCpuHost _ _).afterTicks _ hk

theorem Inv.setLock {s : State} (m : Inv s) (b : Bool) : Inv (s.setLock b) := ⟨m.mem, m.biu, m.dma, m.vbase, m.phase⟩

/-- A program run with gaps, then what goes on safely. -/
theorem Inv.runGaps {s : State} (m : Inv s) (locks : BusReq → Bool) (p : Prog)
    {k : Bool → State → Host.Outcome State Fault Refusal} (hk : ∀ b t, Inv t → GoesOn (k b t)) :
    GoesOn (p.runGaps locks s k) := by
  induction p generalizing s with
  | retire c => exact m.pause _ fun t mt => hk _ _ ((retire_rel t c).inv mt)
  | transfer c => exact m.pause _ fun t mt => hk _ _ ((transfer_rel t c).inv mt)
  | more c =>
    rw [Prog.runGaps]
    split
    · exact hk _ _ (m.withCpuHost c s.host)
    · exact m.pause _ fun t mt => hk _ _ (mt.withCpuHost c t.host)
  | note c p ih => exact ih (m.withCpuHost _ s.host)
  | bus r q ih => exact m.pause _ fun t mt => ih _ ((perform_inv t r mt).setLock _)
  | test q ih => exact ih _ m

/-- An interrupt entry (60_exceptions.md R436). -/
theorem Inv.enterStep {s : State} (m : Inv s) (k : EntryKind) : GoesOn (s.enterStep k) := by
  refine ((beginEntry_rel s k).inv m).afterTicks _ fun t mt => ?_
  dsimp only
  split
  · exact (run_inv _ t mt).finish _ _
  · exact mt.runGaps _ _ fun _ u mu => mu.finish _ _

theorem Inv.afterLook {s : State} (m : Inv s) : GoesOn s.afterLook := by
  unfold State.afterLook
  split
  · exact (m.noteBoundary _).goesOn
  · exact ((goOn_rel s).inv m).pass _ _

/-! ## The bytes of the instruction stream -/

/-- The queue may become shorter. -/
theorem Inv.withShorterQueue {s : State} (m : Inv s) (c : Cpu) {q : List Byte} (hq : q.length ≤ s.biu.q.length) :
    Inv { s with cpu := c, biu := { s.biu with q := q } } :=
  have h : CpuRel s { s with cpu := c, biu := { s.biu with q := q } } :=
    ⟨rfl, rfl, rfl, rfl, rfl, rfl, rfl, rfl, hq, rfl, id, rfl, id⟩
  h.inv m

/-- The queue may be filled when the byte of a code fetch in progress is dropped. -/
theorem Inv.withQueueDroppingFetch {s : State} (m : Inv s) (c : Cpu) {q : List Byte} (hq : q.length ≤ Config.queueSize) :
    Inv { s with cpu := c, biu := { s.biu with q := q }.dropFetch } := by
  obtain ⟨-, -, hcur, hreq⟩ := m.biu
  exact ⟨m.mem, ⟨hq, fun x hx hc hd => absurd ⟨x, hx, hc, hd⟩ (drop_live _), by simpa [Biu.dropFetch] using hcur, hreq⟩,
    m.dma, m.vbase, m.phase⟩

theorem Inv.fetchCode {s : State} (m : Inv s) (off : Word) (n : Nat) : Inv (s.fetchCode off n) := by
  induction n generalizing s off with
  | zero => exact m
  | succ n ih => exact ih (perform_inv s _ m) _

/-- Taking the bytes of an instruction (30_encoding.md R121). -/
theorem Inv.consume {s : State} (m : Inv s) (n : Nat) : Inv (s.consume n) := by
  have mt := m.fetchCode s.pfp (n - s.biu.q.length)
  unfold State.consume
  dsimp only
  split
  · exact mt.withShorterQueue _ (by simp)
  · exact mt.withQueueDroppingFetch _ (Nat.zero_le _)

/-- Code fetches of Level A keep the invariant. -/
theorem StreamRel.inv {s t : State} (h : StreamRel s t) (m : Inv s) : Inv t :=
  have hdma : t.dma = s.dma := (congrArg State.dma h.rest :)
  have hlines : t.lines = s.lines := (congrArg State.lines h.rest :)
  have hlabel : t.biu.t = s.biu.t := by rw [h.biu]
  have hpic : t.pic = s.pic := (congrArg State.pic h.rest :)
  have hpit : t.pit = s.pit := (congrArg State.pit h.rest :)
  { mem := by rw [h.params, h.mem]; exact m.mem
    biu := by rw [h.biu]; exact m.biu
    dma := dmaSound_congr hdma hlabel hlines m.dma
    vbase := by rw [hpic]; exact m.vbase
    phase := by rw [hpit]; exact m.phase }

/-- Settling the bytes ahead fills the queue to its size at most, and past its length only with the fetch in progress dropped
(20_memory.md R108). -/
theorem Inv.settleAhead {s t : State} (m : Inv t) (flushed : Bool) : Inv (s.settleAhead t flushed) := by
  have hrel := s.aheadFrom_rel t (max (s.aheadDepth t) t.biu.q.length) 0 t
  have hlen := s.aheadFrom_length t (max (s.aheadDepth t) t.biu.q.length) 0 t
  have hdepth := s.aheadDepth_le t
  unfold State.settleAhead
  split
  · exact m
  · dsimp only
    split
    · exact (hrel.inv m).withShorterQueue _ (by rw [hlen, hrel.biu]; simpa)
    · exact (hrel.inv m).withQueueDroppingFetch _ (by rw [hlen]; exact max_le hdepth m.biu.1)

/-- Six bytes at least are looked at. -/
theorem longestInstr_le_window (s : State) : longestInstr ≤ s.window.length := by
  have hlen : ∀ n (t : State) off, (t.codeBytes off n).length = n := by
    intro n
    induction n with
    | zero => intros; rfl
    | succ n ih => intro t off; exact congrArg (· + 1) (ih _ _)
  rw [State.window, List.length_append, hlen]
  omega

/-! ## The step -/

theorem Inv.afterEffect {t : State} (m : Inv t) (before : State) (i : Instr) (n : Nat) (s : State) (flushed : Bool) :
    GoesOn (before.afterEffect i n s flushed t) := by
  have mu : Inv (((s.settleAhead t flushed).segEdge i before.cpu).setLock (t.cpu.repActive.isSome && t.cpu.lockMark)) :=
    ((segEdge_rel _ i before.cpu).inv (m.settleAhead flushed)).setLock _
  unfold State.afterEffect
  dsimp only
  split
  · exact mu.pass _ _
  · split
    · exact mu.afterLook
    · exact mu.finish _ _

theorem Inv.execStep {s : State} (m : Inv s) (before : State) (i : Instr) (n : Nat) : GoesOn (before.execStep i n s) := by
  unfold State.execStep
  split
  · rw [exec_eq]
    exact (run_inv _ s m).afterEffect before i n s _
  · exact (m.setLock _).runGaps _ _ fun b t mt => mt.afterEffect before i n s b

theorem Inv.instrStep {s : State} (m : Inv s) : GoesOn s.instrStep := by
  unfold State.instrStep
  split
  · exact m.pass _ _
  · obtain ⟨i, rest, hdecode⟩ := completeIn_decode s.window (longestInstr_le_window s)
    rw [hdecode]
    exact (m.consume _).execStep _ _ _

theorem Inv.plainStep {s : State} (m : Inv s) : GoesOn s.plainStep := by
  unfold State.plainStep
  split
  · exact m.pass _ _
  · split
    · split
      · exact m.pass _ _
      · exact m.execStep _ _ _
    · split
      · exact m.execStep _ _ _
      · exact m.instrStep

theorem Inv.step {s : State} (m : Inv s) : GoesOn (step s) := by
  have mt : Inv s.clearOut := m.withCpuHost s.cpu _
  unfold Machine.step
  dsimp only
  split
  · exact mt.tickWith euPhase_rel
  · split
    · exact mt.instrStep
    · split
      · exact mt.enterStep _
      · exact ((goOn_rel _).inv mt).plainStep

/-- Settles O52: a tick and each kind of Level A step go on and keep the invariant. -/
theorem stepKeepsInv : Obligations.StepKeepsInv := fun _ m => m.step

end Sys2Proof.Machine
end

section
/-!
Memory, the host's handlers and the ports no device answers (20_memory.md R83 to R88, R92 to R96; 70_reset_and_hazards.md R712).
-/
namespace Sys2Proof.Machine

/-! ## The host's handlers -/

@[simp] theorem AddrRange.contains_iff (r : AddrRange) (n : Nat) : r.contains n = true ↔ r.base ≤ n ∧ n < r.base + r.size := by
  simp [AddrRange.contains]

theorem State.externalAt_iff (s : State) (a : Addr) :
    s.externalAt a = true ↔
      backing s.params.ramSize a = .rom ∧ ∃ r ∈ s.params.extMem, r.base ≤ a.toNat ∧ a.toNat < r.base + r.size := by
  simp [State.externalAt, and_comm]

theorem State.externalPort_iff (s : State) (p : Word) :
    s.externalPort p = true ↔
      portDevice p = .none ∧ ∃ r ∈ s.params.extPorts, r.base ≤ p.toNat ∧ p.toNat < r.base + r.size := by
  simp [State.externalPort]

/-- An answer takes one of the host's bytes, or draws one; then the host is told. -/
theorem State.extRead_state (s : State) (e : HostEvent) : ∃ bs k,
    (s.extRead e).2 = { s with host := { s.host with extIn := bs, draws := k, out := s.host.out ++ [e] } } := by
  cases h : s.host.extIn with
  | nil => exact ⟨[], s.host.draws + 1, by simp [State.extRead, HostState.answer, HostState.emit, h]⟩
  | cons b bs => exact ⟨bs, s.host.draws, by simp [State.extRead, HostState.answer, HostState.emit, h]⟩

/-- The host is told of a read its handler answers. -/
theorem State.extRead_out (s : State) (e : HostEvent) : (s.extRead e).2.host.out = s.host.out ++ [e] := by
  obtain ⟨bs, k, h⟩ := s.extRead_state e
  rw [h]

/-- The handler answers the next of the host's bytes. -/
theorem State.extRead_of_extIn {s : State} {b : Byte} {bs : List Byte} (h : s.host.extIn = b :: bs) (e : HostEvent) :
    (s.extRead e).1 = b ∧ (s.extRead e).2.host.extIn = bs := by
  simp [State.extRead, HostState.answer, HostState.emit, h]

theorem State.physRead_external {s : State} {a : Addr} (h : s.externalAt a = true) :
    s.physRead a = s.extRead (.extMemRead a) := by
  simp [State.physRead, h]

theorem State.physWrite_external {s : State} {a : Addr} (h : s.externalAt a = true) (v : Byte) :
    s.physWrite a v = s.extWrite (.extMemWrite a v) := by
  simp [State.physWrite, h]

/-! ## Ports -/

/-- Outside the six ranges of the port map no device answers (20_memory.md R93). -/
theorem portDevice_eq_none {p : Word}
    (h : ¬(p.toNat ≤ 0x0F ∨ (0x20 ≤ p.toNat ∧ p.toNat ≤ 0x21) ∨ (0x40 ≤ p.toNat ∧ p.toNat ≤ 0x43) ∨
      (0x60 ≤ p.toNat ∧ p.toNat ≤ 0x63) ∨ (0x80 ≤ p.toNat ∧ p.toNat ≤ 0x83) ∨ (0x3D0 ≤ p.toNat ∧ p.toNat ≤ 0x3DF))) :
    portDevice p = .none := by
  simp only [not_or] at h
  obtain ⟨hdma, hpic, hpit, hppi, hpage, hvideo⟩ := h
  unfold portDevice
  rw [if_neg (by omega), if_neg (by omega), if_neg (by omega), if_neg (by omega), if_neg (by omega), if_neg (by omega)]

theorem State.portRead_none {s : State} {p : Word} (h : portDevice p = .none) :
    s.portRead p = if s.externalPort p then s.extRead (.extPortRead p) else (0xFF, s) := by
  simp only [State.portRead, h]

theorem State.portWrite_none {s : State} {p : Word} (h : portDevice p = .none) (v : Byte) :
    s.portWrite p v = if s.externalPort p then s.extWrite (.extPortWrite p v) else s := by
  simp only [State.portWrite, h]

/-- Settles O29: no device answers such a port, and a handler of the host does exactly where a range contains it. -/
theorem unclaimedPorts : Obligations.UnclaimedPorts := by
  intro s p v hclaimed external
  have hnone := portDevice_eq_none hclaimed
  have hiff : s.externalPort p = true ↔ external := by rw [State.externalPort_iff]; exact and_iff_right hnone
  rw [State.portRead_none hnone, State.portWrite_none hnone]
  refine ⟨fun hexternal => ?_, fun hexternal => ?_⟩
  · rw [← hiff] at hexternal
    exact ⟨if_neg hexternal, if_neg hexternal⟩
  · rw [if_pos (hiff.2 hexternal), if_pos (hiff.2 hexternal)]
    exact ⟨s.extRead_out _, fun b bs h => State.extRead_of_extIn h _, rfl⟩

/-! ## Reading and writing memory -/

/-- Every address of a byte reads it. -/
theorem State.peek_congr (s : State) {a b : Addr} (h : sameByte a b) : s.peek a = s.peek b := by
  have hkey : cellKey a = cellKey b := h
  have hbacking : backing s.params.ramSize a = backing s.params.ramSize b := by
    rw [← backing_cellKey, hkey, backing_cellKey]
  simp only [State.peek, unlisted, hkey, hbacking]

/-- The video window shows its bytes twice (20_memory.md R96). -/
theorem sameByte_video {a : Addr} (hlow : 0xB8000 ≤ a.toNat) (hhigh : a.toNat < 0xBC000) : sameByte (a + 0x4000) a := by
  have hsum : (a + 0x4000).toNat = a.toNat + 0x4000 := by bv_omega
  unfold sameByte cellKey
  rw [hsum, if_pos (by omega), if_pos (by omega)]
  omega

theorem toNat_phys (seg off : Word) : (phys seg off).toNat = (seg.toNat * 16 + off.toNat) % 2 ^ 20 := by
  unfold phys
  bv_omega

/-- The two bytes of a word are two bytes of memory, also where the offset wraps (20_memory.md R85, R86). -/
theorem not_sameByte_phys_succ (seg off : Word) : ¬sameByte (phys seg off) (phys seg (off + 1)) := by
  have hlo := toNat_phys seg off
  have hhi := toNat_phys seg (off + 1)
  have hsucc : (off + 1).toNat = (off.toNat + 1) % 2 ^ 16 := by bv_omega
  unfold sameByte cellKey
  split <;> split <;> omega

/-- A word is read from the two places it lies in (20_memory.md R86). -/
theorem State.word_eq_peek {s : State} {seg off : Word} (hlo : s.externalAt (phys seg off) = false)
    (hhi : s.externalAt (phys seg (off + 1)) = false) :
    s.word seg off = s.peek (phys seg (off + 1)) ++ s.peek (phys seg off) := by
  have hlogged : ∀ r b k, (s.log r b k).externalAt (phys seg (off + 1)) = false := fun _ _ _ => hhi
  simp only [State.word, State.byte, State.readAfter, State.performs_cons, State.performs_nil, State.perform_memR,
    State.physRead_internal _ _ hlo, State.physRead_internal _ _ (hlogged _ _ _), State.peek_log]

/-- The two writes of a word store its halves (20_memory.md R87). -/
theorem State.peek_performs_wordWrites {s : State} {seg off : Word} (v : Word)
    (hlo : backing s.params.ramSize (phys seg off) ≠ .rom) (hhi : backing s.params.ramSize (phys seg (off + 1)) ≠ .rom) :
    (s.performs (wordWrites seg off v)).peek (phys seg off) = v.setWidth 8 ∧
    (s.performs (wordWrites seg off v)).peek (phys seg (off + 1)) = v.extractLsb' 8 8 := by
  have hpair := not_sameByte_phys_succ seg off
  simp only [wordWrites, State.performs_cons, State.performs_nil, State.perform_memW, State.peek_log]
  generalize hfirst : (s.physWrite (phys seg off) (v.setWidth 8)).log (.memW (phys seg off) (v.setWidth 8)) (v.setWidth 8)
    s.biu.ticks = t
  have hparams : t.params = s.params := by simp [← hfirst]
  have hstored : t.peek (phys seg off) = v.setWidth 8 := by
    rw [← hfirst, State.peek_log, State.physWrite_internal _ _ _ (s.externalAt_backed _ hlo)]
    exact s.peek_poke_same _ _ _ rfl hlo
  rw [← hparams] at hhi
  constructor
  · rw [State.peek_physWrite_other _ _ _ _ hpair, hstored]
  · rw [State.physWrite_internal _ _ _ (t.externalAt_backed _ hhi)]
    exact t.peek_poke_same _ _ _ rfl hhi

@[simp] theorem State.performs_wordWrites_params (s : State) (seg off v : Word) :
    (s.performs (wordWrites seg off v)).params = s.params := by
  simp [wordWrites, State.perform_memW]

/-- A word is its two halves. -/
theorem extractLsb'_append_setWidth (v : Word) : v.extractLsb' 8 8 ++ v.setWidth 8 = v := by
  rw [BitVec.setWidth_eq_extractLsb' (by decide), BitVec.extractLsb'_append_extractLsb'_eq_extractLsb' (by decide)]
  exact BitVec.extractLsb'_eq_self

/-- A word written to RAM or video memory is read back. -/
theorem State.word_performs_wordWrites {s : State} {seg off : Word} (v : Word)
    (hlo : backing s.params.ramSize (phys seg off) ≠ .rom) (hhi : backing s.params.ramSize (phys seg (off + 1)) ≠ .rom) :
    (s.performs (wordWrites seg off v)).word seg off = v := by
  obtain ⟨hpeeklo, hpeekhi⟩ := State.peek_performs_wordWrites v hlo hhi
  rw [State.word_eq_peek (State.externalAt_backed _ _ (by simpa using hlo)) (State.externalAt_backed _ _ (by simpa using hhi)),
    hpeeklo, hpeekhi, extractLsb'_append_setWidth]

/-- Settles O48: a byte by its key in the list, an access by whose address it is, a word by its two bytes. -/
theorem readAfterWrite : Obligations.ReadAfterWrite := by
  refine ⟨fun s a b v => ⟨fun hb hk => s.peek_poke_same a b v hk hb, s.peek_poke_other a b v, s.poke_rom a v,
    fun hlow hhigh => s.peek_congr (sameByte_video hlow hhigh)⟩, ?_, fun s seg off v => State.word_performs_wordWrites v⟩
  intro s a v external
  have hiff : s.externalAt a = true ↔ external := s.externalAt_iff a
  simp only [State.access]
  refine ⟨fun hexternal => ?_, fun hexternal => ?_⟩
  · rw [← hiff, Bool.not_eq_true] at hexternal
    rw [State.physRead_internal s a hexternal, State.physWrite_internal s a v hexternal]
    exact ⟨rfl, rfl⟩
  · rw [State.physRead_external (hiff.2 hexternal), State.physWrite_external (hiff.2 hexternal)]
    exact ⟨s.extRead_out _, fun b bs h => State.extRead_of_extIn h _, rfl⟩

/-! ## The frame of an access -/

/-- What accesses of memory may change: the stored bytes, the trace, and what a handler of the host is told and answers
(20_memory.md R94). -/
def State.MemoryFrame (s t : State) : Prop :=
  t = { s with
    mem := t.mem, biu := { s.biu with trace := t.biu.trace }
    host := { s.host with extIn := t.host.extIn, draws := t.host.draws, out := t.host.out } }

theorem State.MemoryFrame.refl (s : State) : s.MemoryFrame s := rfl

theorem State.MemoryFrame.trans {s t u : State} (h : s.MemoryFrame t) (k : t.MemoryFrame u) : s.MemoryFrame u := by
  unfold State.MemoryFrame at *
  rw [k, h]

theorem State.MemoryFrame.params {s t : State} (h : s.MemoryFrame t) : t.params = s.params := (congrArg State.params h :)

theorem State.memoryFrame_extRead (s : State) (e : HostEvent) : s.MemoryFrame (s.extRead e).2 := by
  obtain ⟨bs, k, h⟩ := s.extRead_state e
  rw [h]
  rfl

theorem State.memoryFrame_physRead (s : State) (a : Addr) : s.MemoryFrame (s.physRead a).2 := by
  unfold State.physRead
  split
  · exact s.memoryFrame_extRead _
  · exact .refl s

theorem State.memoryFrame_physWrite (s : State) (a : Addr) (v : Byte) : s.MemoryFrame (s.physWrite a v) := by
  unfold State.physWrite State.poke
  split
  · rfl
  · split <;> rfl

theorem State.memoryFrame_log (s : State) (r : BusReq) (b : Byte) (k : Nat) : s.MemoryFrame (s.log r b k) := rfl

/-- An access of memory, by its type. -/
theorem State.memoryFrame_perform (s : State) {r : BusReq} (h : r.isMemory = true) : s.MemoryFrame (s.perform r).2 := by
  cases r with
  | code a => exact (s.memoryFrame_physRead a).trans (State.memoryFrame_log ..)
  | memR a => exact (s.memoryFrame_physRead a).trans (State.memoryFrame_log ..)
  | memW a v => exact (s.memoryFrame_physWrite a v).trans (State.memoryFrame_log ..)
  | ioR p => cases h
  | ioW p v => cases h
  | inta => cases h

theorem State.memoryFrame_performs (s : State) {rs : List BusReq} (h : ∀ r ∈ rs, r.isMemory = true) :
    s.MemoryFrame (s.performs rs) := by
  induction rs generalizing s with
  | nil => exact .refl s
  | cons r rs ih =>
    rw [List.forall_mem_cons] at h
    exact (s.memoryFrame_perform h.1).trans (ih _ h.2)

/-- The host hears nothing of an access no handler of its own answers. -/
theorem State.perform_host {s : State} {r : BusReq} (hmem : r.isMemory = true)
    (hint : ∀ a, r.addr = some a → s.externalAt a = false) : (s.perform r).2.host = s.host := by
  cases r with
  | code a => simp [s.physRead_internal a (hint a rfl)]
  | memR a => simp [s.physRead_internal a (hint a rfl)]
  | memW a v => simp [State.perform_memW, s.physWrite_internal a v (hint a rfl)]
  | ioR p => cases hmem
  | ioW p v => cases hmem
  | inta => cases hmem

theorem State.performs_host {s : State} {rs : List BusReq} (hmem : ∀ r ∈ rs, r.isMemory = true)
    (hint : ∀ r ∈ rs, ∀ a, r.addr = some a → s.externalAt a = false) : (s.performs rs).host = s.host := by
  induction rs generalizing s with
  | nil => rfl
  | cons r rs ih =>
    rw [List.forall_mem_cons] at hmem hint
    have hsame : ∀ a, (s.perform r).2.externalAt a = s.externalAt a := fun a => by
      simp only [State.externalAt, (s.memoryFrame_perform hmem.1).params]
    rw [State.performs_cons, ih hmem.2 (by simpa only [hsame] using hint.2), State.perform_host hmem.1 hint.1]

/-- Every access appends one record to the trace (10_state.md R29). -/
theorem State.trace_length_perform (s : State) (r : BusReq) :
    (s.perform r).2.biu.trace.length = s.biu.trace.length + 1 := by
  have hbiu := (access_rel s r).biu
  simp [State.perform, hbiu]

theorem State.trace_length_performs (s : State) (rs : List BusReq) :
    (s.performs rs).biu.trace.length = s.biu.trace.length + rs.length := by
  induction rs generalizing s with
  | nil => rfl
  | cons r rs ih =>
    rw [State.performs_cons, ih, State.trace_length_perform, List.length_cons]
    omega

/-- Settles O47: by the frame of one access, followed through the list. -/
theorem accessFrame : Obligations.AccessFrame := by
  intro s rs c hmem t
  exact ⟨s.memoryFrame_performs hmem, State.performs_host hmem, s.trace_length_performs rs,
    fun a hstored => s.peek_performs_other rs a hmem hstored, fun _ => ⟨rfl, rfl⟩, rfl, rfl⟩

end Sys2Proof.Machine
end

section
/-!
Decoding and encoding are inverse to each other (30_encoding.md R120, R124 to R127, R140).
-/
namespace Sys2Proof

/-! ## Fields and names -/

theorem Oct.toNat_lt (o : Oct) : o.toNat < 8 := by cases o <;> decide

theorem Oct.ofNum_eq_of_mod {n : Nat} {o : Oct} (h : n % 8 = o.toNat) : Oct.ofNum n = o := by
  unfold Oct.ofNum
  rw [h]
  cases o <;> rfl

theorem Oct.toNat_ofNum (n : Nat) : (Oct.ofNum n).toNat = n % 8 := by
  have hlt : n % 8 < 8 := Nat.mod_lt n (by decide)
  unfold Oct.ofNum
  generalize n % 8 = d at hlt ⊢
  interval_cases d <;> rfl

@[simp] theorem Oct.r8_oct (r : Reg8) : r.oct.r8 = r := by cases r <;> rfl
@[simp] theorem Oct.r16_oct (r : Reg16) : r.oct.r16 = r := by cases r <;> rfl
@[simp] theorem Reg8.oct_r8 (o : Oct) : o.r8.oct = o := by cases o <;> rfl
@[simp] theorem Reg16.oct_r16 (o : Oct) : o.r16.oct = o := by cases o <;> rfl
@[simp] theorem Oct.base_oct (b : Base) : b.oct.base = b := by cases b <;> rfl
@[simp] theorem Base.oct_base (o : Oct) : o.base.oct = o := by cases o <;> rfl
@[simp] theorem Oct.sreg_oct (r : SReg) : r.oct.sreg = r := by cases r <;> rfl
@[simp] theorem Oct.sreg_octHigh (r : SReg) : r.octHigh.sreg = r := by cases r <;> rfl
@[simp] theorem SReg.isHigh_oct (r : SReg) : r.oct.isHigh = false := by cases r <;> rfl
@[simp] theorem SReg.isHigh_octHigh (r : SReg) : r.octHigh.isHigh = true := by cases r <;> rfl
theorem SReg.oct_sreg {o : Oct} (h : o.isHigh = false) : o.sreg.oct = o := by cases o <;> trivial
theorem SReg.octHigh_sreg {o : Oct} (h : o.isHigh = true) : o.sreg.octHigh = o := by cases o <;> trivial

@[simp] theorem RM.r8_map_oct (e : RM8) : RM.r8 (e.map Reg8.oct) = e := by cases e <;> simp [RM.r8, RM.map]
@[simp] theorem RM.r16_map_oct (e : RM16) : RM.r16 (e.map Reg16.oct) = e := by cases e <;> simp [RM.r16, RM.map]
@[simp] theorem RM.map_oct_r8 (e : RM Oct) : e.r8.map Reg8.oct = e := by cases e <;> simp [RM.r8, RM.map]
@[simp] theorem RM.map_oct_r16 (e : RM Oct) : e.r16.map Reg16.oct = e := by cases e <;> simp [RM.r16, RM.map]
@[simp] theorem RM.wf_map {R S : Type} (f : R → S) (e : RM R) : (e.map f).wf = e.wf := by cases e <;> rfl
@[simp] theorem RM.wf_r8 (e : RM Oct) : e.r8.wf = e.wf := RM.wf_map _ e
@[simp] theorem RM.wf_r16 (e : RM Oct) : e.r16.wf = e.wf := RM.wf_map _ e

/-- Only the base of the direct form's `rm` needs a displacement (30_encoding.md R125). -/
theorem Mem.wf_noDisp_iff (b : Base) : (Mem.noDisp b).wf = true ↔ b.oct ≠ .o6 := by cases b <;> decide

/-! ## Bytes in octal digits: ModRM, and the opcode by the map -/

theorem toNat_modRMByte (mod : Nat) (g r : Oct) :
    (modRMByte mod g r).toNat = (mod * 64 + g.toNat * 8 + r.toNat) % 256 := BitVec.toNat_ofNat ..

@[simp] theorem modRMByte_div_64 {mod : Nat} (h : mod < 4) (g r : Oct) : (modRMByte mod g r).toNat / 64 = mod := by
  have hg := g.toNat_lt
  have hr := r.toNat_lt
  rw [toNat_modRMByte]
  omega

@[simp] theorem ofNum_modRMByte_div_8 (mod : Nat) (g r : Oct) : Oct.ofNum ((modRMByte mod g r).toNat / 8) = g := by
  have hg := g.toNat_lt
  have hr := r.toNat_lt
  refine Oct.ofNum_eq_of_mod ?_
  rw [toNat_modRMByte]
  omega

@[simp] theorem ofNum_modRMByte (mod : Nat) (g r : Oct) : Oct.ofNum (modRMByte mod g r).toNat = r := by
  have hr := r.toNat_lt
  refine Oct.ofNum_eq_of_mod ?_
  rw [toNat_modRMByte]
  omega

/-- Every byte is made of its three fields. -/
theorem eq_modRMByte (b : Byte) : b = modRMByte (b.toNat / 64) (Oct.ofNum (b.toNat / 8)) (Oct.ofNum b.toNat) := by
  have hb := b.isLt
  refine BitVec.eq_of_toNat_eq ?_
  rw [toNat_modRMByte, Oct.toNat_ofNum, Oct.toNat_ofNum]
  omega

theorem exists_modRMByte (b : Byte) : ∃ mod < 4, ∃ g r, b = modRMByte mod g r :=
  ⟨_, by have hb := b.isLt; omega, _, _, eq_modRMByte b⟩

@[simp] theorem joinBytes_hiByte_loByte (w : Word) : joinBytes (hiByte w) (loByte w) = w :=
  Machine.extractLsb'_append_setWidth w

theorem loByte_joinBytes (hi lo : Byte) : loByte (joinBytes hi lo) = lo :=
  (BitVec.setWidth_append (x := hi) (y := lo)).trans (by simp)

theorem hiByte_joinBytes (hi lo : Byte) : hiByte (joinBytes hi lo) = hi := BitVec.extractLsb'_append_eq_left

@[simp] theorem wordBytes_joinBytes (hi lo : Byte) : wordBytes (joinBytes hi lo) = [lo, hi] := by
  rw [wordBytes, loByte_joinBytes, hiByte_joinBytes]

/-! ## What is encoded decodes -/

/-- A part of the decoder that takes the bytes `bs`, whatever follows them, and answers the instruction `i`. -/
def Parse.Reads (p : Parse) (bs : List Byte) (i : Instr) : Prop := ∀ rest, p (bs ++ rest) = .ok i rest

/-- The instruction `j` that decoding computes is `i`: its numbers are those of `i`'s registers, its words joined from the
bytes of `i`'s words. -/
theorem Parse.Reads.of_eq {p : Parse} {bs : List Byte} {i j : Instr} (h : p.Reads bs j) (hj : j = i) : p.Reads bs i :=
  hj ▸ h

theorem withWord_wordBytes (k : Word → Parse) (w : Word) (bs : List Byte) : withWord k (wordBytes w ++ bs) = k w bs := by
  simp [withWord, withByte, wordBytes]

/-- ModRM is read from the bytes it is written as (30_encoding.md R124, R125). -/
theorem withModRM_modRM (k : Oct → RM Oct → Parse) {g : Oct} {e : RM Oct} (h : e.wf = true) (bs : List Byte) :
    withModRM k (modRM g e ++ bs) = k g e bs := by
  cases e with
  | reg r => simp [withModRM, modRM, withByte]
  | mem m =>
    cases m with
    | noDisp b => simp [withModRM, modRM, withByte, (Mem.wf_noDisp_iff b).1 h]
    | direct d => simp [withModRM, modRM, withByte, withWord_wordBytes]
    | disp8 b d => simp [withModRM, modRM, withByte]
    | disp16 b d => simp [withModRM, modRM, withByte, withWord_wordBytes]

section
variable {op : Byte}

/-- An opcode with ModRM and `tail`: what stands after ModRM is read by the rest of the decoder. -/
theorem decode_reads_modRM_append {k : Oct → RM Oct → Parse} {g : Oct} {e : RM Oct} {tail : List Byte} {i : Instr}
    (hop : decodeOpcode op = withModRM k) (he : e.wf = true) (htail : (k g e).Reads tail i) :
    Parse.Reads decode (op :: (modRM g e ++ tail)) i := by
  intro rest
  calc decode (op :: (modRM g e ++ tail) ++ rest)
    _ = withModRM k (modRM g e ++ (tail ++ rest)) := by rw [← hop, ← List.append_assoc]; rfl
    _ = .ok i rest := by rw [withModRM_modRM k he, htail]

/-- An opcode with ModRM and nothing after it. -/
theorem decode_reads_modRM {k : Oct → RM Oct → Parse} {g : Oct} {e : RM Oct} {i : Instr}
    (hop : decodeOpcode op = withModRM k) (he : e.wf = true) (hend : (k g e).Reads [] i) :
    Parse.Reads decode (op :: modRM g e) i := by
  rw [← List.append_nil (modRM g e)]
  exact decode_reads_modRM_append hop he hend

/-! The four forms with two operands in ModRM (30_encoding.md R140). -/

theorem decode_reads_EbGb {f : RM8 → Reg8 → Instr} (hop : decodeOpcode op = withModRM fun g e => emit (f e.r8 g.r8))
    {rm : RM8} {reg : Reg8} (h : rm.wf = true) :
    Parse.Reads decode (op :: modRM reg.oct (rm.map Reg8.oct)) (f rm reg) :=
  decode_reads_modRM hop ((RM.wf_map _ _).trans h) (.of_eq (fun _ => rfl) (by simp))

theorem decode_reads_EvGv {f : RM16 → Reg16 → Instr} (hop : decodeOpcode op = withModRM fun g e => emit (f e.r16 g.r16))
    {rm : RM16} {reg : Reg16} (h : rm.wf = true) :
    Parse.Reads decode (op :: modRM reg.oct (rm.map Reg16.oct)) (f rm reg) :=
  decode_reads_modRM hop ((RM.wf_map _ _).trans h) (.of_eq (fun _ => rfl) (by simp))

theorem decode_reads_GbEb {f : Reg8 → RM8 → Instr} (hop : decodeOpcode op = withModRM fun g e => emit (f g.r8 e.r8))
    {reg : Reg8} {rm : RM8} (h : rm.wf = true) :
    Parse.Reads decode (op :: modRM reg.oct (rm.map Reg8.oct)) (f reg rm) :=
  decode_reads_EbGb (f := fun rm reg => f reg rm) hop h

theorem decode_reads_GvEv {f : Reg16 → RM16 → Instr} (hop : decodeOpcode op = withModRM fun g e => emit (f g.r16 e.r16))
    {reg : Reg16} {rm : RM16} (h : rm.wf = true) :
    Parse.Reads decode (op :: modRM reg.oct (rm.map Reg16.oct)) (f reg rm) :=
  decode_reads_EvGv (f := fun rm reg => f reg rm) hop h

/-- An opcode that stands for `f` with a memory operand, and for the undefined `u` with a register in its place
(30_encoding.md R151). -/
theorem decode_reads_memory {f : Reg16 → Mem → Instr} {u : Reg16 → Reg16 → Instr}
    (hop : decodeOpcode op = withModRM fun g e => match e with | .mem m => emit (f g.r16 m) | .reg r => emit (u g.r16 r.r16))
    (reg : Reg16) :
    (∀ m, m.wf = true → Parse.Reads decode (op :: modRM reg.oct (.mem m)) (f reg m)) ∧
    ∀ r : Reg16, Parse.Reads decode (op :: modRM reg.oct (.reg r.oct)) (u reg r) :=
  ⟨fun _ h => decode_reads_modRM hop h (.of_eq (fun _ => rfl) (by simp)),
    fun _ => decode_reads_modRM hop rfl (.of_eq (fun _ => rfl) (by simp))⟩

/-- An opcode whose ModRM `reg` names a segment register: it stands for `f`, and for `hi` in the undocumented spelling
(30_encoding.md R146, R150). -/
theorem decode_reads_segment {f hi : RM16 → SReg → Instr}
    (hop : decodeOpcode op = withModRM fun g e => emit (if g.isHigh then hi e.r16 g.sreg else f e.r16 g.sreg)) {rm : RM16}
    (h : rm.wf = true) (sr : SReg) :
    Parse.Reads decode (op :: modRM sr.oct (rm.map Reg16.oct)) (f rm sr) ∧
    Parse.Reads decode (op :: modRM sr.octHigh (rm.map Reg16.oct)) (hi rm sr) :=
  ⟨decode_reads_modRM hop ((RM.wf_map _ _).trans h) (.of_eq (fun _ => rfl) (by simp)),
    decode_reads_modRM hop ((RM.wf_map _ _).trans h) (.of_eq (fun _ => rfl) (by simp))⟩

end

/-- An encoding decodes to its instruction: by the form of the operands. -/
theorem decode_reads_encode (i : Instr) (h : i.wf = true) : Parse.Reads decode (encode i) i := by
  cases i with
  | addEbGb rm reg | orEbGb rm reg | adcEbGb rm reg | sbbEbGb rm reg | andEbGb rm reg | subEbGb rm reg | xorEbGb rm reg
  | cmpEbGb rm reg | testEbGb rm reg | xchgEbGb rm reg | movEbGb rm reg => exact decode_reads_EbGb rfl h
  | addEvGv rm reg | orEvGv rm reg | adcEvGv rm reg | sbbEvGv rm reg | andEvGv rm reg | subEvGv rm reg | xorEvGv rm reg
  | cmpEvGv rm reg | testEvGv rm reg | xchgEvGv rm reg | movEvGv rm reg => exact decode_reads_EvGv rfl h
  | addGbEb reg rm | orGbEb reg rm | adcGbEb reg rm | sbbGbEb reg rm | andGbEb reg rm | subGbEb reg rm | xorGbEb reg rm
  | cmpGbEb reg rm | movGbEb reg rm => exact decode_reads_GbEb rfl h
  | addGvEv reg rm | orGvEv reg rm | adcGvEv reg rm | sbbGvEv reg rm | andGvEv reg rm | subGvEv reg rm | xorGvEv reg rm
  | cmpGvEv reg rm | movGvEv reg rm => exact decode_reads_GvEv rfl h
  -- a group: `reg` of ModRM extends the opcode
  | popEv rm | undef8F1 rm | undef8F2 rm | undef8F3 rm | undef8F4 rm | undef8F5 rm | undef8F6 rm | undef8F7 rm
  | rolEb1 rm | rorEb1 rm | rclEb1 rm | rcrEb1 rm | shlEb1 rm | shrEb1 rm | undefD06 rm | sarEb1 rm | rolEv1 rm
  | rorEv1 rm | rclEv1 rm | rcrEv1 rm | shlEv1 rm | shrEv1 rm | undefD16 rm | sarEv1 rm | rolEbCL rm | rorEbCL rm
  | rclEbCL rm | rcrEbCL rm | shlEbCL rm | shrEbCL rm | undefD26 rm | sarEbCL rm | rolEvCL rm | rorEvCL rm | rclEvCL rm
  | rcrEvCL rm | shlEvCL rm | shrEvCL rm | undefD36 rm | sarEvCL rm | notEb rm | negEb rm | mulEb rm | imulEb rm
  | divEb rm | idivEb rm | notEv rm | negEv rm | mulEv rm | imulEv rm | divEv rm | idivEv rm | incEb rm | decEb rm
  | undefFE2 rm | undefFE3 rm | undefFE4 rm | undefFE5 rm | undefFE6 rm | undefFE7 rm | incEv rm | decEv rm | callEv rm
  | jmpEv rm | pushEv rm | undefFF7 rm =>
    exact decode_reads_modRM rfl ((RM.wf_map _ _).trans h) (.of_eq (fun _ => rfl) (by simp))
  -- a group with a byte or a word after ModRM
  | addEbIb rm imm | orEbIb rm imm | adcEbIb rm imm | sbbEbIb rm imm | andEbIb rm imm | subEbIb rm imm | xorEbIb rm imm
  | cmpEbIb rm imm | addEvIv rm imm | orEvIv rm imm | adcEvIv rm imm | sbbEvIv rm imm | andEvIv rm imm | subEvIv rm imm
  | xorEvIv rm imm | cmpEvIv rm imm | addEbIb82 rm imm | orEbIb82 rm imm | adcEbIb82 rm imm | sbbEbIb82 rm imm
  | andEbIb82 rm imm | subEbIb82 rm imm | xorEbIb82 rm imm | cmpEbIb82 rm imm | addEvIbs rm imm | orEvIbs rm imm
  | adcEvIbs rm imm | sbbEvIbs rm imm | andEvIbs rm imm | subEvIbs rm imm | xorEvIbs rm imm | cmpEvIbs rm imm
  | movEbIb rm imm | undefC61 rm imm | undefC62 rm imm | undefC63 rm imm | undefC64 rm imm | undefC65 rm imm
  | undefC66 rm imm | undefC67 rm imm | movEvIv rm imm | undefC71 rm imm | undefC72 rm imm | undefC73 rm imm
  | undefC74 rm imm | undefC75 rm imm | undefC76 rm imm | undefC77 rm imm | testEbIb rm imm | testEbIb1 rm imm
  | testEvIv rm imm | testEvIv1 rm imm =>
    exact decode_reads_modRM_append rfl ((RM.wf_map _ _).trans h) (.of_eq (fun _ => rfl) (by simp))
  | movEwSw rm sr => exact (decode_reads_segment rfl h sr).1
  | movEwSwHi rm sr => exact (decode_reads_segment (f := .movEwSw) rfl h sr).2
  | movSwEw sr rm =>
    exact (decode_reads_segment (f := fun rm sr => .movSwEw sr rm) (hi := fun rm sr => .movSwEwHi sr rm) rfl h sr).1
  | movSwEwHi sr rm =>
    exact (decode_reads_segment (f := fun rm sr => .movSwEw sr rm) (hi := fun rm sr => .movSwEwHi sr rm) rfl h sr).2
  | lea reg m => exact (decode_reads_memory (u := .undefLea) rfl reg).1 m h
  | undefLea reg r => exact (decode_reads_memory (f := .lea) rfl reg).2 r
  | les reg m => exact (decode_reads_memory (u := .undefLes) rfl reg).1 m h
  | undefLes reg r => exact (decode_reads_memory (f := .les) rfl reg).2 r
  | lds reg m => exact (decode_reads_memory (u := .undefLds) rfl reg).1 m h
  | undefLds reg r => exact (decode_reads_memory (f := .lds) rfl reg).2 r
  | callMp m | jmpMp m => exact decode_reads_modRM rfl h fun _ => rfl
  | undefFF3 r | undefFF5 r => exact decode_reads_modRM rfl rfl (.of_eq (fun _ => rfl) (by simp))
  -- a number in the opcode byte
  | esc op reg rm =>
    exact decode_reads_modRM (k := fun g e => emit (.esc op g e.r16)) (by cases op <;> rfl) ((RM.wf_map _ _).trans h)
      (.of_eq (fun _ => rfl) (by simp))
  | incReg16 r | decReg16 r | pushReg16 r | popReg16 r | movReg8Ib r imm => cases r <;> exact fun _ => rfl
  | movReg16Iv r imm => cases r <;> exact .of_eq (fun _ => rfl) (by rw [joinBytes_hiByte_loByte]; rfl)
  | jcc60 cc disp | jcc cc disp => cases cc <;> exact fun _ => rfl
  -- the opcode alone, or with immediate bytes
  | _ => exact .of_eq (fun _ => rfl) (by simp)

/-- Settles O2, by the form of the instruction's operands. -/
theorem decodeEncode : Obligations.DecodeEncode := fun i rest h => decode_reads_encode i h rest

/-! ## What decodes is encoded -/

/-- Whatever this part of the decoder answers, after the decoder has taken the bytes `pre`, is a well-formed instruction whose
encoding is `pre` and the bytes this part takes. -/
def Parse.Inverts (p : Parse) (pre : List Byte) : Prop :=
  ∀ bs i rest, p bs = .ok i rest → i.wf = true ∧ encode i ++ rest = pre ++ bs

@[simp] theorem inverts_emit (i : Instr) (pre : List Byte) : (emit i).Inverts pre ↔ i.wf = true ∧ encode i = pre := by
  constructor
  · intro h
    simpa using h [] i [] rfl
  · rintro ⟨hwf, rfl⟩ bs j rest h
    cases h
    exact ⟨hwf, rfl⟩

/-! An opcode that stands for one of two instructions. -/

theorem emit_ite (c : Prop) [Decidable c] (i j : Instr) : emit (if c then i else j) = if c then emit i else emit j :=
  apply_ite emit c i j

theorem inverts_ite (c : Prop) [Decidable c] (p q : Parse) (pre : List Byte) :
    (if c then p else q).Inverts pre ↔ (c → p.Inverts pre) ∧ (¬c → q.Inverts pre) := by
  split <;> simp_all

/-! The readers: what they read is appended to the bytes taken. -/

@[simp] theorem inverts_withByte (k : Byte → Parse) (pre : List Byte) :
    (withByte k).Inverts pre ↔ ∀ b, (k b).Inverts (pre ++ [b]) := by
  constructor
  · intro h b bs i rest hk
    simpa using h (b :: bs) i rest hk
  · intro h bs i rest hk
    cases bs with
    | nil => cases hk
    | cons b bs => simpa using h b bs i rest hk

@[simp] theorem inverts_withWord (k : Word → Parse) (pre : List Byte) :
    (withWord k).Inverts pre ↔ ∀ w, (k w).Inverts (pre ++ wordBytes w) := by
  simp only [withWord, inverts_withByte, List.append_assoc]
  constructor
  · intro h w
    simpa [wordBytes] using h (loByte w) (hiByte w)
  · intro h lo hi
    simpa using h (joinBytes hi lo)

/-- Every ModRM byte and displacement are those of a well-formed operand (30_encoding.md R124, R125). -/
@[simp] theorem inverts_withModRM (k : Oct → RM Oct → Parse) (pre : List Byte) :
    (withModRM k).Inverts pre ↔ ∀ g e, e.wf = true → (k g e).Inverts (pre ++ modRM g e) := by
  constructor
  · intro h g e he bs i rest hk
    rw [← withModRM_modRM k he] at hk
    simpa using h _ i rest hk
  · intro h
    refine (inverts_withByte _ pre).2 fun b => ?_
    obtain ⟨mod, hmod, g, r, rfl⟩ := exists_modRMByte b
    simp only [modRMByte_div_64 hmod, ofNum_modRMByte_div_8, ofNum_modRMByte]
    match mod with
    | 0 =>
      by_cases hr : r = .o6
      · simpa [hr, modRM] using fun d => h g (.mem (.direct d)) rfl
      · simpa [hr, modRM] using h g (.mem (.noDisp r.base)) ((Mem.wf_noDisp_iff _).2 (by simpa using hr))
    | 1 => simpa [modRM] using fun d => h g (.mem (.disp8 r.base d)) rfl
    | 2 => simpa [modRM] using fun d => h g (.mem (.disp16 r.base d)) rfl
    | 3 => simpa [modRM] using h g (.reg r) rfl

/-! ## The groups of opcodes that ModRM `reg` tells apart -/

section
variable (g : Oct) {e : RM Oct} (h : e.wf = true)
include h

@[simp] theorem inverts_group80 : (group80 g e).Inverts (0x80#8 :: modRM g e) := by
  cases g <;> simp [group80, encode.eq_def, Instr.wf.eq_def, h]

@[simp] theorem inverts_group81 : (group81 g e).Inverts (0x81#8 :: modRM g e) := by
  cases g <;> simp [group81, encode.eq_def, Instr.wf.eq_def, h]

@[simp] theorem inverts_group82 : (group82 g e).Inverts (0x82#8 :: modRM g e) := by
  cases g <;> simp [group82, encode.eq_def, Instr.wf.eq_def, h]

@[simp] theorem inverts_group83 : (group83 g e).Inverts (0x83#8 :: modRM g e) := by
  cases g <;> simp [group83, encode.eq_def, Instr.wf.eq_def, h]

@[simp] theorem inverts_group8F : (group8F g e).Inverts (0x8F#8 :: modRM g e) := by
  cases g <;> simp [group8F, encode.eq_def, Instr.wf.eq_def, h]

@[simp] theorem inverts_groupC6 : (groupC6 g e).Inverts (0xC6#8 :: modRM g e) := by
  cases g <;> simp [groupC6, encode.eq_def, Instr.wf.eq_def, h]

@[simp] theorem inverts_groupC7 : (groupC7 g e).Inverts (0xC7#8 :: modRM g e) := by
  cases g <;> simp [groupC7, encode.eq_def, Instr.wf.eq_def, h]

@[simp] theorem inverts_groupD0 : (groupD0 g e).Inverts (0xD0#8 :: modRM g e) := by
  cases g <;> simp [groupD0, encode.eq_def, Instr.wf.eq_def, h]

@[simp] theorem inverts_groupD1 : (groupD1 g e).Inverts (0xD1#8 :: modRM g e) := by
  cases g <;> simp [groupD1, encode.eq_def, Instr.wf.eq_def, h]

@[simp] theorem inverts_groupD2 : (groupD2 g e).Inverts (0xD2#8 :: modRM g e) := by
  cases g <;> simp [groupD2, encode.eq_def, Instr.wf.eq_def, h]

@[simp] theorem inverts_groupD3 : (groupD3 g e).Inverts (0xD3#8 :: modRM g e) := by
  cases g <;> simp [groupD3, encode.eq_def, Instr.wf.eq_def, h]

@[simp] theorem inverts_groupF6 : (groupF6 g e).Inverts (0xF6#8 :: modRM g e) := by
  cases g <;> simp [groupF6, encode.eq_def, Instr.wf.eq_def, h]

@[simp] theorem inverts_groupF7 : (groupF7 g e).Inverts (0xF7#8 :: modRM g e) := by
  cases g <;> simp [groupF7, encode.eq_def, Instr.wf.eq_def, h]

@[simp] theorem inverts_groupFE : (groupFE g e).Inverts (0xFE#8 :: modRM g e) := by
  cases g <;> simp [groupFE, encode.eq_def, Instr.wf.eq_def, h]

/-- Memory is meant in two rows of this group. -/
@[simp] theorem inverts_groupFF : (groupFF g e).Inverts (0xFF#8 :: modRM g e) := by
  cases g
  case o3 | o5 => cases e <;> simp_all [groupFF, encode.eq_def, Instr.wf.eq_def, RM.wf]
  all_goals simp [groupFF, encode.eq_def, Instr.wf.eq_def, h]

end

/-! ## The map, its opcode byte in octal digits -/

@[simp] theorem Oct.toNat_digits : Oct.o0.toNat = 0 ∧ Oct.o1.toNat = 1 ∧ Oct.o2.toNat = 2 ∧ Oct.o3.toNat = 3 ∧
    Oct.o4.toNat = 4 ∧ Oct.o5.toNat = 5 ∧ Oct.o6.toNat = 6 ∧ Oct.o7.toNat = 7 := by decide

@[simp] theorem Cond.toNat_ofNum_low (o : Oct) : (Cond.ofNum o.toNat).toNat = o.toNat := by cases o <;> rfl
@[simp] theorem Cond.toNat_ofNum_high (o : Oct) : (Cond.ofNum (8 + o.toNat)).toNat = 8 + o.toNat := by cases o <;> rfl

/-- A property of all `r/m` operands, by the two kinds. -/
theorem RM.forall_iff {R : Type} {P : RM R → Prop} : (∀ e, P e) ↔ (∀ r, P (.reg r)) ∧ ∀ m, P (.mem m) :=
  ⟨fun h => ⟨fun _ => h _, fun _ => h _⟩, fun h e => by cases e with | reg r => exact h.1 r | mem m => exact h.2 m⟩

theorem inverts_decodeQuarter0 (m l : Oct) : (decodeQuarter0 m l).Inverts [modRMByte 0 m l] := by
  unfold decodeQuarter0
  split <;> simp +contextual [encode.eq_def, Instr.wf.eq_def, modRMByte]

theorem inverts_decodeQuarter1 (m l : Oct) : (decodeQuarter1 m l).Inverts [modRMByte 1 m l] := by
  unfold decodeQuarter1
  split <;> simp [encode.eq_def, Instr.wf.eq_def, modRMByte, opcodeWith, BitVec.ofNat_add, ← BitVec.add_assoc]

theorem inverts_decodeQuarter2 (m l : Oct) : (decodeQuarter2 m l).Inverts [modRMByte 2 m l] := by
  unfold decodeQuarter2
  split
  -- 8C and 8E, where bit 2 of `reg` tells two spellings apart
  case h_13 | h_15 =>
    simp +contextual [emit_ite, inverts_ite, encode.eq_def, Instr.wf.eq_def, modRMByte, SReg.oct_sreg, SReg.octHigh_sreg]
  -- 8D, which is LEA with memory only
  case h_14 => simp [RM.forall_iff, encode.eq_def, Instr.wf.eq_def, modRMByte, RM.wf]
  all_goals simp +contextual [encode.eq_def, Instr.wf.eq_def, modRMByte, opcodeWith, BitVec.ofNat_add]

theorem inverts_decodeQuarter3 (m l : Oct) : (decodeQuarter3 m l).Inverts [modRMByte 3 m l] := by
  unfold decodeQuarter3
  split
  -- C4 and C5, which are LES and LDS with memory only
  case h_5 | h_6 => simp [RM.forall_iff, encode.eq_def, Instr.wf.eq_def, modRMByte, RM.wf]
  all_goals simp +contextual [encode.eq_def, Instr.wf.eq_def, modRMByte, opcodeWith, BitVec.ofNat_add]

theorem inverts_decodeOpcode (op : Byte) : (decodeOpcode op).Inverts [op] := by
  obtain ⟨q, hq, m, l, rfl⟩ := exists_modRMByte op
  simp only [decodeOpcode, modRMByte_div_64 hq, ofNum_modRMByte_div_8, ofNum_modRMByte]
  match q with
  | 0 => exact inverts_decodeQuarter0 m l
  | 1 => exact inverts_decodeQuarter1 m l
  | 2 => exact inverts_decodeQuarter2 m l
  | 3 => exact inverts_decodeQuarter3 m l

theorem inverts_decode : Parse.Inverts decode [] := (inverts_withByte _ _).2 inverts_decodeOpcode

/-- Settles O3, along the decoder: what each part of it answers is encoded as the bytes it has taken. -/
theorem encodeDecode : Obligations.EncodeDecode := inverts_decode

/-- Settles O4: the longest row of the map is as long as the longest instruction. -/
theorem noEncodingRejected : Obligations.NoEncodingRejected := completeIn_decode

theorem decode_of_encode {i : Instr} {bs : List Byte} (h : i.wf = true) (hbs : encode i = bs) : decode bs = .ok i [] := by
  rw [← hbs, ← List.append_nil (encode i)]
  exact decode_reads_encode i h []

/-- Settles O1: each word is the encoding of its instruction. -/
theorem writtenWordsDecode : Obligations.WrittenWordsDecode := by
  refine ⟨?_, ?_, ?_, ?_, ?_, ?_, ?_, ?_, ?_, ?_⟩ <;> exact decode_of_encode rfl rfl

end Sys2Proof
end

section
/-!
The marks, and the undefined encodings (30_encoding.md R122, R147, R150, R151; 42_logic_shift.md R257).
-/
namespace Sys2Proof.Machine

/-- Settles O45: the program of a mark is one change of the decode state. -/
theorem marks : Obligations.Marks := fun s => by
  refine ⟨?_, ?_, ?_, ?_, ?_, ?_, ?_, ?_⟩ <;> exact exec_eq _ s

/-- An undefined encoding does nothing before it ends. -/
theorem progOf_undefined {i : Instr} (h : isUndefined i = true) (c : Cpu) : progOf i c = .retire c := by
  unfold isUndefined at h
  split at h
  case h_38 => cases h
  all_goals rfl

/-- Settles O46: by the program of an undefined encoding. -/
theorem undefinedEncodings : Obligations.UndefinedEncodings := fun i s h => by
  rw [exec_eq, progOf_undefined h]
  rfl

end Sys2Proof.Machine
end

section
/-!
What a step does when nothing is recognised first (30_encoding.md R121; 20_memory.md R104, R108; 43_string.md R277;
45_processor_control.md R341, R342, R344).
-/
namespace Sys2Proof.Machine

/-! ## Executing -/

theorem State.execStep_without_gaps (before : State) (i : Instr) (n : Nat) {s : State} (h : s.host.gaps = []) :
    before.execStep i n s = before.afterExec i n s (exec i s) := by
  simp [State.execStep, h]

theorem State.execStep_with_gaps (before : State) (i : Instr) (n : Nat) {s : State} (h : s.host.gaps ≠ []) :
    before.execStep i n s =
      (progOf i s.cpu).runGaps (taskLocks s.cpu.lockMark (.instr i)) (s.setLock (s.biu.lockline || s.cpu.lockMark))
        (before.afterEffect i n s) := by
  simp [State.execStep, h]

/-- After a look of a WAIT either something is recognised, or a tick passes (60_exceptions.md R446). -/
theorem State.afterLook_eq (s : State) :
    s.afterLook = if s.choose = none then s.goOn.pass false 1 else .next (s.noteBoundary false) := by
  unfold State.afterLook
  cases s.choose <;> rfl

theorem State.afterEffect_eq (before : State) (i : Instr) (n : Nat) (s : State) (flushed : Bool) (u : State) :
    let w := ((s.settleAhead u flushed).segEdge i before.cpu).setLock (u.cpu.repActive.isSome && u.cpu.lockMark)
    before.afterEffect i n s flushed u = if w.cpu.halted then w.pass w.cpu.boundary 1
      else if w.cpu.waiting then if w.choose = none then w.goOn.pass false 1 else .next (w.noteBoundary false)
      else w.finish (stepTicks before w n) w.cpu.boundary := by
  simp only [State.afterEffect, State.afterLook_eq]

/-! ## The bytes that follow -/

/-- Where every byte ahead is determined, none is settled. -/
theorem State.aheadDepth_eq_zero {s u : State} (h : ∀ j, s.unsettled u j = false) : s.aheadDepth u = 0 := by
  have hnil : (List.range Config.queueSize).filter (s.unsettled u) = [] := List.filter_eq_nil_iff.2 (by simp [h])
  simp [State.aheadDepth, hnil]

/-- Code fetches leave what memory holds. -/
theorem StreamRel.peek {t u : State} (h : StreamRel t u) (a : Addr) : u.peek a = t.peek a := by
  simp only [State.peek, h.mem, h.epoch, h.params]

theorem StreamRel.externalAt {t u : State} (h : StreamRel t u) (a : Addr) : u.externalAt a = t.externalAt a := by
  simp only [State.externalAt, h.params]

/-- The block's memory is read as it was before some code fetches. -/
theorem StreamRel.physRead_fst {t u : State} (h : StreamRel t u) {a : Addr} (ha : t.externalAt a = false) :
    (u.physRead a).1 = t.peek a := by
  rw [← h.externalAt] at ha
  rw [u.physRead_internal a ha, h.peek]

/-- The queue after bytes are settled, at a byte ahead it reaches to. -/
theorem State.settleAhead_get {s u : State} {j : Nat} (hdepth : s.aheadDepth u ≠ 0)
    (hj : j < max (s.aheadDepth u) u.biu.q.length) :
    ∃ t, StreamRel u t ∧ (s.settleAhead u false).biu.q[j]? = some (s.aheadByte u j t).1 := by
  rw [State.settleAhead_q hdepth]
  simpa using s.aheadFrom_get u _ 0 j u hj

theorem State.settleAhead_get_unsettled {s u : State} {j : Nat} (h : s.unsettled u j = true) :
    ∃ t, StreamRel u t ∧ (s.settleAhead u false).biu.q[j]? = some (s.aheadByte u j t).1 :=
  have hj := State.lt_aheadDepth h
  State.settleAhead_get (Nat.ne_zero_of_lt hj) (lt_max_of_lt_left hj)

/-- A byte stored to is the old or the new one (20_memory.md R108). -/
theorem State.settleAhead_get_stored {s u : State} {j : Nat} (h : s.storesAhead u j = true) :
    (s.settleAhead u false).biu.q[j]? =
      some (if Config.freeBit (u.cpu.draws + j) then s.window.getD j 0 else u.peek (s.aheadAddr j)) := by
  obtain ⟨t, -, hget⟩ := State.settleAhead_get_unsettled ((s.unsettled_iff u j).2 (.inl h))
  simp [hget, State.aheadByte, h]

/-- A byte after a load of CS is that of the old or of the new CS (40_data_transfer.md R171, R176). -/
theorem State.settleAhead_get_loaded {s u : State} {j : Nat} (h : j < Config.queueSize ∧ u.cpu.cs ≠ s.cpu.cs)
    (hstored : s.storesAhead u j = false) (hold : u.externalAt (s.aheadAddr j) = false)
    (hnew : u.externalAt (u.aheadAddr j) = false) :
    (s.settleAhead u false).biu.q[j]? =
      some (if Config.freeBit (u.cpu.draws + j) then
        if j < s.biu.q.length then s.biu.q.getD j 0 else u.peek (s.aheadAddr j) else u.peek (u.aheadAddr j)) := by
  have hun : s.unsettled u j = true := (s.unsettled_iff u j).2 (.inr h)
  obtain ⟨t, hrel, hget⟩ := State.settleAhead_get_unsettled hun
  rw [hget]
  unfold State.aheadByte
  simp only [hstored, hun]
  cases Config.freeBit (u.cpu.draws + j) <;> by_cases hq : j < s.biu.q.length <;>
    simp [hq, hrel.physRead_fst hold, hrel.physRead_fst hnew]

/-- Another byte of the queue stays. -/
theorem State.settleAhead_get_settled {s u : State} {j : Nat} (h : s.unsettled u j = false) (hj : j < u.biu.q.length) :
    (s.settleAhead u false).biu.q[j]? = u.biu.q[j]? := by
  by_cases hdepth : s.aheadDepth u = 0
  · rw [State.settleAhead_none (.inr hdepth)]
  · obtain ⟨t, -, hget⟩ := State.settleAhead_get hdepth (lt_max_of_lt_right hj)
    have hstored : s.storesAhead u j = false := by simp_all [State.unsettled]
    simp [hget, State.aheadByte, hstored, h, hj]

/-! ## The kinds of step -/

theorem State.waitsForBus_iff (s : State) : s.waitsForBus = true ↔ s.cpu.lockMark = true ∧ s.biu.t = .th := by
  simp [State.waitsForBus]

/-- Code fetches leave the CPU. -/
@[simp] theorem State.fetchCode_cpu (s : State) (off : Word) (n : Nat) : (s.fetchCode off n).cpu = s.cpu := by
  induction n generalizing s off with
  | zero => rfl
  | succ n ih => exact (ih _ _).trans (State.perform_cpu s _)

/-- Taking bytes moves IP past them and leaves the rest of the CPU (30_encoding.md R121). -/
theorem State.consume_cpu (s : State) (n : Nat) :
    (s.consume n).cpu = { s.cpu with ip := s.cpu.ip + BitVec.ofNat 16 n } := by
  simp [State.consume]

theorem State.instrStep_of_wait {s : State} (h : s.waitsForBus = true) : s.instrStep = s.pass false 1 := if_pos h

/-- The bytes at CS:IP are decoded, taken and executed, in the middle of a unit and at its start alike. -/
theorem State.instrStep_of_decode {t : State} {i : Instr} {rest : List Byte}
    (hbus : ¬(t.cpu.lockMark = true ∧ t.biu.t = .th)) (h : decode t.window = .ok i rest) :
    let n := t.window.length - rest.length
    t.instrStep = t.execStep i (min n t.biu.q.length) (t.consume n) ∧
      (t.consume n).cpu = { t.cpu with ip := t.cpu.ip + BitVec.ofNat 16 n } := by
  refine ⟨?_, t.consume_cpu _⟩
  rw [← t.waitsForBus_iff] at hbus
  simp only [State.instrStep, if_neg hbus, h]

theorem stringOfOpcode_stringCode (op : StringOp) (wide : Bool) :
    stringOfOpcode (stringCode op wide) = stringOf op wide := by
  cases op <;> cases wide <;> rfl

theorem State.plainStep_of_halted {s : State} (h : s.cpu.halted = true) : s.plainStep = s.pass false 1 := if_pos h

theorem State.plainStep_of_repActive {s : State} {r : Repeating} (hhalt : s.cpu.halted = false)
    (h : s.cpu.repActive = some r) :
    s.plainStep = if s.waitsForBus then s.pass false 1 else s.execStep (stringOfOpcode r.opcode) 0 s := by
  simp only [State.plainStep, hhalt, h]
  rfl

theorem State.plainStep_of_waiting {s : State} (hhalt : s.cpu.halted = false) (hrep : s.cpu.repActive = none)
    (h : s.cpu.waiting = true) : s.plainStep = s.execStep .wait 0 s := by
  simp only [State.plainStep, hhalt, hrep, h]
  rfl

theorem State.plainStep_of_instr {s : State} (hhalt : s.cpu.halted = false) (hrep : s.cpu.repActive = none)
    (hwait : s.cpu.waiting = false) : s.plainStep = s.instrStep := by
  simp only [State.plainStep, hhalt, hrep, hwait]
  rfl

@[simp] theorem State.clearOut_byTick (s : State) : s.clearOut.host.byTick = s.host.byTick := rfl
@[simp] theorem State.clearOut_choose (s : State) : s.clearOut.choose = s.choose := rfl

theorem State.busy_of_idle {s : State} (h : s.eu.prog = .idle) : s.busy = false := by simp [State.busy, h]

theorem step_byTick {s : State} (h : s.host.byTick = true) : step s = s.clearOut.tick := by simp [step, h]

theorem step_midUnit {s : State} (hidle : s.eu.prog = .idle) (htick : s.host.byTick = false) (h : s.cpu.midUnit = true) :
    step s = s.clearOut.instrStep := by
  have hbusy : s.clearOut.busy = false := State.busy_of_idle hidle
  simp [step, hbusy, htick, h]

theorem step_unrecognised {s : State} (hidle : s.eu.prog = .idle) (htick : s.host.byTick = false)
    (hmid : s.cpu.midUnit = false) (h : s.choose = none) : step s = s.clearOut.goOn.plainStep := by
  have hbusy : s.clearOut.busy = false := State.busy_of_idle hidle
  simp [step, hbusy, htick, hmid, h]

/-- Settles O49: the effect of an instruction, then the bytes that follow it, then the kinds of step. -/
theorem stepRunsDecoded : Obligations.StepRunsDecoded := by
  refine ⟨fun before s u i n flushed => ⟨before.execStep_without_gaps i n, before.execStep_with_gaps i n, rfl,
    before.afterEffect_eq i n s flushed u⟩, ?_, ?_⟩
  · intro s u ahead stored next loaded old queue
    have hstored : ∀ j, stored j ↔ s.storesAhead u j = true := fun j => (s.storesAhead_iff u j).symm
    have hsettled : ∀ j, ¬stored j → ¬loaded j → s.unsettled u j = false := fun j hs hl => by
      rw [← Bool.not_eq_true, s.unsettled_iff, ← hstored]
      exact not_or.2 ⟨hs, hl⟩
    refine ⟨State.settleAhead_none (.inl rfl), fun h => ?_, fun j hs => ?_, fun j hl hs hold hnew => ?_,
      fun j hs hl hj => ?_⟩
    · exact State.settleAhead_none (.inr (State.aheadDepth_eq_zero fun j => hsettled j (h j).1 (h j).2))
    · exact State.settleAhead_get_stored ((hstored j).1 hs)
    · rw [hstored, Bool.not_eq_true] at hs
      exact State.settleAhead_get_loaded hl hs hold hnew
    · exact State.settleAhead_get_settled (hsettled j hs hl) hj
  · intro s i rest hidle
    refine ⟨step_byTick, fun htick hgo => ?_⟩
    cases hmid : s.cpu.midUnit with
    | true =>
      rw [step_midUnit hidle htick hmid]
      exact ⟨fun _ hheld => State.instrStep_of_wait ((State.waitsForBus_iff _).2 hheld),
        fun _ _ _ hfree hdecode => State.instrStep_of_decode hfree hdecode, nofun, nofun, nofun⟩
    | false =>
      have hnone : s.choose = none := hgo.resolve_left (by simp [hmid])
      rw [step_unrecognised hidle htick hmid hnone]
      refine ⟨nofun, fun hhalt hwait hrep hfree hdecode => ?_, fun _ hhalt => State.plainStep_of_halted hhalt,
        fun _ hhalt op wide r hrep hcode => ?_, fun _ hhalt hrep hwait => State.plainStep_of_waiting hhalt hrep hwait⟩
      · rw [State.plainStep_of_instr (s := s.clearOut.goOn) hhalt hrep hwait]
        exact State.instrStep_of_decode hfree hdecode
      · rw [State.plainStep_of_repActive (s := s.clearOut.goOn) hhalt hrep, hcode, stringOfOpcode_stringCode]
        exact if_congr (State.waitsForBus_iff _) rfl rfl

end Sys2Proof.Machine
end

section
/-!
The data transfer instructions: MOV, the stack, XCHG, the ports, the address loads and the transfers of flags
(40_data_transfer.md R170 to R189).
-/
namespace Sys2Proof.Machine

/-- An instruction answers the state in which the run of its program ends. -/
theorem exec_of_run {i : Instr} {s t : State} (h : (progOf i s.cpu).run s = t) : exec i s = .next t := by
  rw [exec_eq, h]

/-! ## MOV (R170, R171) -/

theorem run_movTo8 (s : State) (rm : RM8) (v : Byte) :
    (movTo byteWidth rm v s.cpu).run s = s.ends (s.cpu.writes8 v rm) (s.cpu.into8 v rm) :=
  run_store8 s s.cpu s.cpu rm v .retire

theorem run_movTo16 (s : State) (rm : RM16) (v : Word) :
    (movTo wordWidth rm v s.cpu).run s = s.ends (s.cpu.writes16 v rm) (s.cpu.into16 v rm) :=
  run_store16 s s.cpu s.cpu rm v .retire

theorem run_movFrom8 (s : State) (reg : Reg8) (rm : RM8) :
    (movFrom byteWidth reg rm s.cpu).run s = s.ends (s.cpu.reads8 rm) (s.cpu.set8 reg (s.operand8 rm)) :=
  run_load8 s rm _

theorem run_movFrom16 (s : State) (reg : Reg16) (rm : RM16) :
    (movFrom wordWidth reg rm s.cpu).run s = s.ends (s.cpu.reads16 rm) (s.cpu.set16 reg (s.operand16 rm)) :=
  run_load16 s rm _

theorem run_movToSeg (s : State) (sr : SReg) (rm : RM16) :
    (movToSeg sr rm s.cpu).run s = s.ends (s.cpu.reads16 rm) (s.cpu.loadSeg sr (s.operand16 rm)) :=
  run_load16 s rm _

/-- Settles O24: each form moves to an operand, from an operand, or an immediate to a register; the forms with an offset move
from and to the operand at that offset. -/
theorem movForms : Obligations.MovForms := fun s =>
  ⟨fun rm _ => exec_of_run (run_movTo8 s rm _), fun rm _ => exec_of_run (run_movTo16 s rm _),
    fun reg rm => exec_of_run (run_movFrom8 s reg rm), fun reg rm => exec_of_run (run_movFrom16 s reg rm),
    fun rm imm => exec_of_run (run_movTo8 s rm imm), fun rm imm => exec_of_run (run_movTo16 s rm imm),
    fun _ _ => exec_of_run rfl, fun _ _ => exec_of_run rfl,
    fun off => ⟨exec_of_run (run_movFrom8 s .al (.mem (.direct off))),
      exec_of_run (run_movFrom16 s .ax (.mem (.direct off))), exec_of_run (run_movTo8 s (.mem (.direct off)) _),
      exec_of_run (run_movTo16 s (.mem (.direct off)) _)⟩⟩

/-- Settles O25: the store moves to an operand, the load from one to the segment register. -/
theorem movSegment : Obligations.MovSegment := fun s rm sr =>
  ⟨exec_of_run (run_movTo16 s rm _), exec_of_run (run_movTo16 s rm _), exec_of_run (run_movToSeg s sr rm),
    exec_of_run (run_movToSeg s sr rm)⟩

/-! ## PUSH and POP (R172 to R177) -/

/-- PUSH SP by opcode 54 reads SP after it has moved (R172). -/
theorem Cpu.r16_withSp (c : Cpu) (v : Word) (r : Reg16) : { c with sp := v }.r16 r = if r = .sp then v else c.r16 r := by
  cases r <;> rfl

/-- A push of a value that is computed before SP moves. -/
theorem run_push16_retire (s : State) (v : Word) (c : Cpu) :
    (push16 v c .retire).run s = s.ends (wordWrites c.ss (c.sp - 2) v) { c with sp := c.sp - 2 } :=
  run_push16 v c .retire s

/-- A pop whose word makes one change of the CPU. -/
theorem run_pop16_retire (s : State) (c : Cpu) (f : Word → Cpu → Cpu) :
    (pop16 c fun v d => .retire (f v d)).run s =
      s.ends (wordReads c.ss c.sp) (f (s.word c.ss c.sp) { c with sp := c.sp + 2 }) :=
  run_pop16 c _ s

theorem run_progPushReg16 (s : State) (r : Reg16) :
    (progPushReg16 r s.cpu).run s =
      s.ends (wordWrites s.cpu.ss (s.cpu.sp - 2) (if r = .sp then s.cpu.sp - 2 else s.cpu.r16 r))
        { s.cpu with sp := s.cpu.sp - 2 } := by
  rw [progPushReg16, Cpu.r16_withSp, run_push16_retire]

/-- PUSH r/m16 but for SP reads its operand, then pushes it (R174). -/
theorem progPushEv_of_ne_sp {rm : RM16} (h : rm ≠ .reg .sp) (c : Cpu) :
    progPushEv rm c = wordWidth.load c (c.place rm) fun v => push16 v c .retire := by
  unfold progPushEv
  split
  case h_1 => exact absurd rfl h
  case h_2 => rfl
  case h_3 => rfl

theorem run_progPushEv {rm : RM16} (h : rm ≠ .reg .sp) (s : State) :
    (progPushEv rm s.cpu).run s =
      s.ends (s.cpu.reads16 rm ++ wordWrites s.cpu.ss (s.cpu.sp - 2) (s.operand16 rm)) { s.cpu with sp := s.cpu.sp - 2 } := by
  rw [progPushEv_of_ne_sp h, run_load16, run_push16, ← State.performs_append]
  rfl

/-- POP r/m16 stores to the place its operand has before SP moves (R177). -/
theorem run_progPopEv (s : State) (rm : RM16) :
    (progPopEv rm s.cpu).run s =
      s.ends (wordReads s.cpu.ss s.cpu.sp ++ s.cpu.writes16 (s.word s.cpu.ss s.cpu.sp) rm)
        ({ s.cpu with sp := s.cpu.sp + 2 }.into16 (s.word s.cpu.ss s.cpu.sp) rm) := by
  rw [progPopEv, run_pop16, run_store16, ← State.performs_append]
  rfl

theorem run_popSeg (s : State) (sr : SReg) :
    (popSeg sr s.cpu).run s =
      s.ends (wordReads s.cpu.ss s.cpu.sp) ({ s.cpu with sp := s.cpu.sp + 2 }.loadSeg sr (s.word s.cpu.ss s.cpu.sp)) :=
  run_pop16_retire s s.cpu fun v d => d.loadSeg sr v

/-- Settles O26: every form is a push of a value or a pop into a place. -/
theorem pushPop : Obligations.PushPop := fun s =>
  ⟨fun r => exec_of_run (run_progPushReg16 s r), fun r => exec_of_run (run_pop16_retire s s.cpu fun v d => d.set16 r v),
    fun _ h => exec_of_run (run_progPushEv h s), exec_of_run (run_push16_retire s s.cpu.freeWord s.cpu.drew),
    fun rm => exec_of_run (run_progPopEv s rm),
    exec_of_run (run_push16_retire s _ s.cpu), exec_of_run (run_push16_retire s _ s.cpu),
    exec_of_run (run_push16_retire s _ s.cpu), exec_of_run (run_push16_retire s _ s.cpu),
    exec_of_run (run_popSeg s .es), exec_of_run (run_popSeg s .cs), exec_of_run (run_popSeg s .ss),
    exec_of_run (run_popSeg s .ds)⟩

/-! ## XCHG (R178, R179) -/

theorem run_exchange8 (s : State) (rm : RM8) (reg : Reg8) :
    (exchange byteWidth rm reg s.cpu).run s =
      s.ends (s.cpu.reads8 rm ++ s.cpu.writes8 (s.cpu.r8 reg) rm)
        ((s.cpu.into8 (s.cpu.r8 reg) rm).set8 reg (s.operand8 rm)) := by
  rw [exchange, run_load8, run_store8, ← State.performs_append]
  rfl

theorem run_exchange16 (s : State) (rm : RM16) (reg : Reg16) :
    (exchange wordWidth rm reg s.cpu).run s =
      s.ends (s.cpu.reads16 rm ++ s.cpu.writes16 (s.cpu.r16 reg) rm)
        ((s.cpu.into16 (s.cpu.r16 reg) rm).set16 reg (s.operand16 rm)) := by
  rw [exchange, run_load16, run_store16, ← State.performs_append]
  rfl

/-- Settles O27: the general forms load the operand before they store, and the forms with AX are one change of two
registers. -/
theorem exchangeInstructions : Obligations.Exchange :=
  ⟨fun rest => ⟨decode_reads_encode .nop rfl rest, decode_reads_encode .xchgAXCX rfl rest,
      decode_reads_encode .xchgAXDX rfl rest, decode_reads_encode .xchgAXBX rfl rest,
      decode_reads_encode .xchgAXSP rfl rest, decode_reads_encode .xchgAXBP rfl rest,
      decode_reads_encode .xchgAXSI rfl rest, decode_reads_encode .xchgAXDI rfl rest⟩,
    fun s => ⟨fun rm reg => exec_of_run (run_exchange8 s rm reg), fun rm reg => exec_of_run (run_exchange16 s rm reg),
      exec_of_run rfl, exec_of_run rfl, exec_of_run rfl, exec_of_run rfl, exec_of_run rfl, exec_of_run rfl,
      exec_of_run rfl⟩⟩

/-! ## IN and OUT (R180, R181) -/

theorem run_input8 (s : State) (p : Word) (c : Cpu) :
    (input byteWidth p c).run s = s.ends [.ioR p] (c.set8 .al (s.portRead p).1) := rfl

theorem run_input16 (s : State) (p : Word) (c : Cpu) :
    (input wordWidth p c).run s =
      s.ends [.ioR p, .ioR (p + 1)] { c with ax := ((s.performs [.ioR p]).portRead (p + 1)).1 ++ (s.portRead p).1 } := rfl

theorem run_output8 (s : State) (p : Word) (c : Cpu) :
    (output byteWidth p c).run s = s.ends [.ioW p (c.ax.setWidth 8)] c := rfl

theorem run_output16 (s : State) (p : Word) (c : Cpu) :
    (output wordWidth p c).run s = s.ends [.ioW p (c.ax.setWidth 8), .ioW (p + 1) (c.ax.extractLsb' 8 8)] c := by
  rw [← hiByte_eq]
  rfl

/-- Settles O28: a byte is one access, a word two. -/
theorem portInstructions : Obligations.PortInstructions := fun s =>
  ⟨fun _ => ⟨exec_of_run (run_input8 s _ s.cpu), exec_of_run (run_input16 s _ s.cpu), exec_of_run (run_output8 s _ s.cpu),
      exec_of_run (run_output16 s _ s.cpu)⟩,
    exec_of_run (run_input8 s _ s.cpu), exec_of_run (run_input16 s _ s.cpu), exec_of_run (run_output8 s _ s.cpu),
    exec_of_run (run_output16 s _ s.cpu)⟩

/-! ## Addresses (R182 to R185; 30_encoding.md R125, R131) -/

/-- The bases with BP have their operands in the stack segment (30_encoding.md R125). -/
theorem Cpu.seg_baseSegment (c : Cpu) (b : Base) :
    c.seg (baseSegment b) = if b = .bpsi ∨ b = .bpdi ∨ b = .bp then c.ss else c.ds := by
  cases b <;> rfl

theorem Cpu.memSeg_of_override {c : Cpu} {r : SReg} (h : c.segOverride = some r) (m : Mem) : c.memSeg m = c.seg r := by
  simp [Cpu.memSeg, Cpu.segOr, h]

theorem Cpu.memSeg_of_no_override {c : Cpu} (h : c.segOverride = none) (m : Mem) : c.memSeg m = c.seg (memSegment m) := by
  simp [Cpu.memSeg, Cpu.segOr, h]

theorem ofInt_toNat {n : Nat} (v : BitVec n) : BitVec.ofInt n v.toNat = v := by
  rw [BitVec.ofInt_natCast, BitVec.ofNat_toNat, BitVec.setWidth_eq]

/-- The register part of an offset, wrapped at once or register by register. -/
theorem Cpu.baseSum_eq_ofInt (c : Cpu) (b : Base) : c.baseSum b = BitVec.ofInt 16 (c.offsetSum (.noDisp b)) := by
  cases b <;> simp only [Cpu.baseSum, Cpu.offsetSum, BitVec.ofInt_add, ofInt_toNat]

/-- A displacement is added to the register part as a number; that of a byte is signed. -/
theorem Cpu.offset_eq_ofInt_offsetSum (c : Cpu) (m : Mem) : c.offset m = BitVec.ofInt 16 (c.offsetSum m) := by
  cases m with
  | noDisp b => exact c.baseSum_eq_ofInt b
  | direct d => exact (ofInt_toNat d).symm
  | disp8 b d =>
    have hsum : c.offsetSum (.disp8 b d) = c.offsetSum (.noDisp b) + d.toInt := rfl
    rw [hsum, BitVec.ofInt_add, ← c.baseSum_eq_ofInt]
    rfl
  | disp16 b d =>
    have hsum : c.offsetSum (.disp16 b d) = c.offsetSum (.noDisp b) + d.toNat := rfl
    rw [hsum, BitVec.ofInt_add, ← c.baseSum_eq_ofInt, ofInt_toNat]
    rfl

/-- LDS and LES read two words, the offset before the segment, and load both (R184, R185). -/
theorem run_loadPointer (s : State) (sr : SReg) (reg : Reg16) (m : Mem) (c : Cpu) :
    (readPointer m c fun o v => .retire ((c.set16 reg o).setSeg sr v)).run s =
      s.ends (wordReads (c.memSeg m) (c.offset m) ++ wordReads (c.memSeg m) (c.offset m + 2))
        ((c.set16 reg (s.word (c.memSeg m) (c.offset m))).setSeg sr (s.word2 (c.memSeg m) (c.offset m))) := rfl

/-- Settles O30: by the segment and the offset of a memory operand. -/
theorem addressLoads : Obligations.AddressLoads := by
  intro s c hasBp table tableSeg
  refine ⟨fun m => ?_, exec_of_run rfl, fun reg m => ?_, fun reg m => ?_⟩
  · cases hover : c.segOverride with
    | some r => exact Cpu.memSeg_of_override hover m
    | none =>
      rw [Cpu.memSeg_of_no_override hover]
      cases m with
      | noDisp b => exact c.seg_baseSegment b
      | direct d => rfl
      | disp8 b d => exact c.seg_baseSegment b
      | disp16 b d => exact c.seg_baseSegment b
  · rw [← Cpu.offset_eq_ofInt_offsetSum]
    exact exec_of_run rfl
  · rw [← Cpu.offset_eq_ofInt_offsetSum]
    exact ⟨exec_of_run (run_loadPointer s .ds reg m c), exec_of_run (run_loadPointer s .es reg m c)⟩

/-! ## The transfers of flags (R186 to R189) -/

/-- Settles O31: by the image of FLAGS and the stack. -/
theorem flagTransfers : Obligations.FlagTransfers :=
  ⟨fun rest => ⟨decode_reads_encode .lahf rfl rest, decode_reads_encode .sahf rfl rest, decode_reads_encode .pushf rfl rest,
      decode_reads_encode .popf rfl rest⟩,
    fun s => ⟨exec_of_run rfl, exec_of_run rfl, exec_of_run (run_push16_retire s _ s.cpu),
      exec_of_run (run_pop16_retire s s.cpu fun v d => { d with flags := Flags.ofImage v })⟩⟩

end Sys2Proof.Machine
end

section
/-!
The arithmetic instructions, and the forms they share with the logic ones (41_arithmetic.md R200 to R231;
42_logic_shift.md R240 to R242, R244).
-/
namespace Sys2Proof.Machine

/-! ## The two-operand operations (R200 to R204, R231) -/

theorem AluOp.result_eq_aluResult {n : Nat} (op : AluOp) (cf : Bool) (a b : BitVec n) :
    op.result cf a b = aluResult op cf a b := by
  cases op with
  | add => exact addWith_eq_ofNat a b false
  | adc => exact addWith_eq_ofNat a b cf
  | sub => exact (subWith_eq_ofInt a b false).trans (by simp [aluResult, bitOf])
  | cmp => exact (subWith_eq_ofInt a b false).trans (by simp [aluResult, bitOf])
  | sbb => exact subWith_eq_ofInt a b cf
  | and => rfl
  | or => rfl
  | xor => rfl

theorem Flags.logic_eq_afterLogic {n : Nat} (f : Flags) (r : BitVec n) (free : Bool) :
    f.logic r free = f.afterLogic r free :=
  Flags.setSzp_eq_withSzp _ r

/-- The flags of an operation are those of the rule for its result (10_state.md R22 to R24). -/
theorem Cpu.alu_eq_afterAlu {n : Nat} (hn : 4 < n) (c : Cpu) (op : AluOp) (a b : BitVec n) :
    c.alu op a b = c.afterAlu op a b := by
  unfold Cpu.alu Cpu.afterAlu
  cases op with
  | add | adc => simp [Flags.add_eq_afterAdd hn, aluResult, bitOf]
  | sub | cmp | sbb => simp [Flags.sub_eq_afterSub hn, aluResult, bitOf]
  | and | or | xor => simp [Flags.logic_eq_afterLogic, aluResult, Cpu.drew, Cpu.freeBit]

theorem run_aluInto8 (c : Cpu) (t : State) (op : AluOp) (rm : RM8) (a b : Byte) :
    (aluInto byteWidth op (c.place rm) a b c).run t =
      t.ends (c.writesUnlessCmp8 op (aluResult op c.flags.cf a b) rm)
        ((c.afterAlu op a b).intoUnlessCmp8 op (aluResult op c.flags.cf a b) rm) := by
  rw [aluInto, Cpu.alu_eq_afterAlu (by decide), AluOp.result_eq_aluResult]
  unfold Cpu.writesUnlessCmp8 Cpu.intoUnlessCmp8
  split
  · rfl
  · rw [run_store8]; rfl

theorem run_aluInto16 (c : Cpu) (t : State) (op : AluOp) (rm : RM16) (a b : Word) :
    (aluInto wordWidth op (c.place rm) a b c).run t =
      t.ends (c.writesUnlessCmp16 op (aluResult op c.flags.cf a b) rm)
        ((c.afterAlu op a b).intoUnlessCmp16 op (aluResult op c.flags.cf a b) rm) := by
  rw [aluInto, Cpu.alu_eq_afterAlu (by decide), AluOp.result_eq_aluResult]
  unfold Cpu.writesUnlessCmp16 Cpu.intoUnlessCmp16
  split
  · rfl
  · rw [run_store16]; rfl

theorem State.ends_append (s : State) (rs ts : List BusReq) (c : Cpu) : (s.performs rs).ends ts c = s.ends (rs ++ ts) c := by
  rw [State.ends, State.ends, State.performs_append]

theorem run_aluRmImm8 (s : State) (op : AluOp) (rm : RM8) (imm : Byte) :
    (aluRmImm byteWidth op rm imm s.cpu).run s = s.aluTo8 op rm imm := by
  rw [aluRmImm, run_load8, run_aluInto8, State.ends_append]
  rfl

theorem run_aluRmImm16 (s : State) (op : AluOp) (rm : RM16) (imm : Word) :
    (aluRmImm wordWidth op rm imm s.cpu).run s = s.aluTo16 op rm imm := by
  rw [aluRmImm, run_load16, run_aluInto16, State.ends_append]
  rfl

theorem Cpu.writesUnlessCmp8_reg (c : Cpu) (op : AluOp) (v : Byte) (r : Reg8) : c.writesUnlessCmp8 op v (.reg r) = [] :=
  ite_self _

theorem Cpu.writesUnlessCmp16_reg (c : Cpu) (op : AluOp) (v : Word) (r : Reg16) : c.writesUnlessCmp16 op v (.reg r) = [] :=
  ite_self _

theorem run_aluRegRm8 (s : State) (op : AluOp) (reg : Reg8) (rm : RM8) :
    (aluRegRm byteWidth op reg rm s.cpu).run s = s.ends (s.cpu.reads8 rm)
      ((s.cpu.afterAlu op (s.cpu.r8 reg) (s.operand8 rm)).intoUnlessCmp8 op
        (aluResult op s.cpu.flags.cf (s.cpu.r8 reg) (s.operand8 rm)) (.reg reg)) := by
  rw [aluRegRm, run_load8, ← place_reg s.cpu, run_aluInto8, Cpu.writesUnlessCmp8_reg]
  rfl

theorem run_aluRegRm16 (s : State) (op : AluOp) (reg : Reg16) (rm : RM16) :
    (aluRegRm wordWidth op reg rm s.cpu).run s = s.ends (s.cpu.reads16 rm)
      ((s.cpu.afterAlu op (s.cpu.r16 reg) (s.operand16 rm)).intoUnlessCmp16 op
        (aluResult op s.cpu.flags.cf (s.cpu.r16 reg) (s.operand16 rm)) (.reg reg)) := by
  rw [aluRegRm, run_load16, ← place_reg s.cpu, run_aluInto16, Cpu.writesUnlessCmp16_reg]
  rfl

/-- Settles O7: the other forms are those with an immediate, the source taken from a register or the operand the
accumulator. -/
theorem twoOperandForms : Obligations.TwoOperandForms := by
  intro op s
  refine ⟨fun rm reg => ?_, fun rm reg => ?_, fun imm => ?_, fun imm => ?_, fun rm imm => ?_, fun rm imm => ?_,
    fun rm imm => ?_, fun rm imm => ?_⟩
  · cases op <;> exact exec_of_run (run_aluRmImm8 s _ rm (s.cpu.r8 reg))
  · cases op <;> exact exec_of_run (run_aluRmImm16 s _ rm (s.cpu.r16 reg))
  · cases op <;> exact exec_of_run (run_aluRmImm8 s _ (.reg .al) imm)
  · cases op <;> exact exec_of_run (run_aluRmImm16 s _ (.reg .ax) imm)
  · cases op <;> exact exec_of_run (run_aluRmImm8 s _ rm imm)
  · cases op <;> exact exec_of_run (run_aluRmImm8 s _ rm imm)
  · cases op <;> exact exec_of_run (run_aluRmImm16 s _ rm imm)
  · cases op <;> exact exec_of_run (run_aluRmImm16 s _ rm (imm.signExtend 16))

/-- Settles O8: the operation stores to a register, which is no access. -/
theorem registerDestinationForms : Obligations.RegisterDestinationForms := by
  intro op s
  refine ⟨fun reg rm => ?_, fun reg rm => ?_⟩
  · cases op <;> exact exec_of_run (run_aluRegRm8 s _ reg rm)
  · cases op <;> exact exec_of_run (run_aluRegRm16 s _ reg rm)

/-! ## INC, DEC, NEG and NOT (R205 to R207; 42_logic_shift.md R244) -/

/-- A read-modify-write, from the value and the CPU it computes of the operand. -/
theorem run_modify8 {s : State} {rm : RM8} {f : Byte → Byte} {g : Byte → Cpu → Cpu} {v : Byte} {c : Cpu}
    (hv : f (s.operand8 rm) = v) (hc : g (s.operand8 rm) s.cpu = c) :
    (modify byteWidth rm f g s.cpu).run s = s.ends (s.cpu.reads8 rm ++ s.cpu.writes8 v rm) (c.into8 v rm) := by
  rw [modify, run_load8, run_store8, ← State.ends_append, hv, hc]
  rfl

/-- A read-modify-write, from the value and the CPU it computes of the operand. -/
theorem run_modify16 {s : State} {rm : RM16} {f : Word → Word} {g : Word → Cpu → Cpu} {v : Word} {c : Cpu}
    (hv : f (s.operand16 rm) = v) (hc : g (s.operand16 rm) s.cpu = c) :
    (modify wordWidth rm f g s.cpu).run s = s.ends (s.cpu.reads16 rm ++ s.cpu.writes16 v rm) (c.into16 v rm) := by
  rw [modify, run_load16, run_store16, ← State.ends_append, hv, hc]
  rfl

theorem subWith_false {n : Nat} (a b : BitVec n) : subWith a b false = a - b := BitVec.sub_zero _

theorem sub_eq_ofInt {n : Nat} (a b : BitVec n) : a - b = BitVec.ofInt n (a.toNat - b.toNat) := by
  rw [← subWith_false, subWith_eq_ofInt]
  simp [bitOf]

theorem add_one_eq_ofNat {n : Nat} (a : BitVec n) : a + 1 = BitVec.ofNat n (a.toNat + 1) := by
  rw [BitVec.ofNat_add, BitVec.ofNat_toNat, BitVec.setWidth_eq]
  rfl

theorem sub_one_eq_ofInt {n : Nat} (hn : 0 < n) (a : BitVec n) : a - 1 = BitVec.ofInt n (a.toNat - 1) := by
  have h1 : (1 : BitVec n).toNat = 1 := by simp [hn]
  rw [sub_eq_ofInt, h1, Nat.cast_one]

theorem zero_sub_eq_ofInt {n : Nat} (a : BitVec n) : 0 - a = BitVec.ofInt n (0 - a.toNat) := sub_eq_ofInt 0 a

theorem Flags.inc_eq_afterAdd {n : Nat} (hn : 4 < n) (f : Flags) (a : BitVec n) :
    f.inc a = { f.afterAdd a 1 (BitVec.ofNat n (a.toNat + 1)) 0 with cf := f.cf } := by
  have h1 : (1 : BitVec n).toNat = 1 := by simp [Nat.zero_lt_of_lt hn]
  rw [Flags.inc, Flags.add_eq_afterAdd hn, h1]
  rfl

theorem Flags.dec_eq_afterSub {n : Nat} (hn : 4 < n) (f : Flags) (a : BitVec n) :
    f.dec a = { f.afterSub a 1 (BitVec.ofInt n (a.toNat - 1)) 0 with cf := f.cf } := by
  rw [Flags.dec, Flags.sub_eq_afterSub hn, ← subWith_eq_ofInt, subWith_false, sub_one_eq_ofInt (Nat.zero_lt_of_lt hn)]
  rfl

theorem Flags.sub_zero_eq_afterSub {n : Nat} (hn : 4 < n) (f : Flags) (a : BitVec n) :
    f.sub 0 a false = f.afterSub 0 a (BitVec.ofInt n (0 - a.toNat)) 0 := by
  rw [Flags.sub_eq_afterSub hn, ← subWith_eq_ofInt, subWith_false, zero_sub_eq_ofInt]
  rfl

/-- Subtracting from 0 borrows exactly if the operand is not 0 (41_arithmetic.md R207). -/
theorem Flags.afterSub_zero_cf {n : Nat} (f : Flags) (a r : BitVec n) : (f.afterSub 0 a r 0).cf = decide (a ≠ 0) := by
  have hcf : (f.afterSub 0 a r 0).cf = decide ((0 : BitVec n).toNat < a.toNat + 0) := rfl
  rw [hcf, decide_eq_decide]
  simp [Nat.pos_iff_ne_zero, BitVec.toNat_eq]

theorem Cpu.setFlags_congr (c : Cpu) {f g : Flags} (h : f = g) : { c with flags := f } = { c with flags := g } := h ▸ rfl

theorem run_incRm8 (s : State) (rm : RM8) :
    let v := BitVec.ofNat 8 ((s.operand8 rm).toNat + 1)
    (incRm byteWidth rm s.cpu).run s = s.ends (s.cpu.reads8 rm ++ s.cpu.writes8 v rm)
      ({ s.cpu with flags :=
        { s.cpu.flags.afterAdd (s.operand8 rm) 1 v 0 with cf := s.cpu.flags.cf } }.into8 v rm) :=
  run_modify8 (add_one_eq_ofNat _) (s.cpu.setFlags_congr (Flags.inc_eq_afterAdd (by decide) _ _))

theorem run_incRm16 (s : State) (rm : RM16) :
    let v := BitVec.ofNat 16 ((s.operand16 rm).toNat + 1)
    (incRm wordWidth rm s.cpu).run s = s.ends (s.cpu.reads16 rm ++ s.cpu.writes16 v rm)
      ({ s.cpu with flags :=
        { s.cpu.flags.afterAdd (s.operand16 rm) 1 v 0 with cf := s.cpu.flags.cf } }.into16 v rm) :=
  run_modify16 (add_one_eq_ofNat _) (s.cpu.setFlags_congr (Flags.inc_eq_afterAdd (by decide) _ _))

theorem run_decRm8 (s : State) (rm : RM8) :
    let v := BitVec.ofInt 8 ((s.operand8 rm).toNat - 1)
    (decRm byteWidth rm s.cpu).run s = s.ends (s.cpu.reads8 rm ++ s.cpu.writes8 v rm)
      ({ s.cpu with flags :=
        { s.cpu.flags.afterSub (s.operand8 rm) 1 v 0 with cf := s.cpu.flags.cf } }.into8 v rm) :=
  run_modify8 (sub_one_eq_ofInt (by decide) _) (s.cpu.setFlags_congr (Flags.dec_eq_afterSub (by decide) _ _))

theorem run_decRm16 (s : State) (rm : RM16) :
    let v := BitVec.ofInt 16 ((s.operand16 rm).toNat - 1)
    (decRm wordWidth rm s.cpu).run s = s.ends (s.cpu.reads16 rm ++ s.cpu.writes16 v rm)
      ({ s.cpu with flags :=
        { s.cpu.flags.afterSub (s.operand16 rm) 1 v 0 with cf := s.cpu.flags.cf } }.into16 v rm) :=
  run_modify16 (sub_one_eq_ofInt (by decide) _) (s.cpu.setFlags_congr (Flags.dec_eq_afterSub (by decide) _ _))

/-- Settles O10: each form reads its operand, then stores the result of an operation with 1. -/
theorem incDec : Obligations.IncDec := fun s =>
  ⟨fun rm => exec_of_run (run_incRm8 s rm), fun rm => exec_of_run (run_incRm16 s rm),
    fun r => exec_of_run (run_incRm16 s (.reg r)), fun rm => exec_of_run (run_decRm8 s rm),
    fun rm => exec_of_run (run_decRm16 s rm), fun r => exec_of_run (run_decRm16 s (.reg r))⟩

theorem run_negRm8 (s : State) (rm : RM8) :
    let v := BitVec.ofInt 8 (0 - (s.operand8 rm).toNat)
    (negRm byteWidth rm s.cpu).run s = s.ends (s.cpu.reads8 rm ++ s.cpu.writes8 v rm)
      ({ s.cpu with flags := s.cpu.flags.afterSub 0 (s.operand8 rm) v 0 }.into8 v rm) :=
  run_modify8 (zero_sub_eq_ofInt _) (s.cpu.setFlags_congr (Flags.sub_zero_eq_afterSub (by decide) _ _))

theorem run_negRm16 (s : State) (rm : RM16) :
    let v := BitVec.ofInt 16 (0 - (s.operand16 rm).toNat)
    (negRm wordWidth rm s.cpu).run s = s.ends (s.cpu.reads16 rm ++ s.cpu.writes16 v rm)
      ({ s.cpu with flags := s.cpu.flags.afterSub 0 (s.operand16 rm) v 0 }.into16 v rm) :=
  run_modify16 (zero_sub_eq_ofInt _) (s.cpu.setFlags_congr (Flags.sub_zero_eq_afterSub (by decide) _ _))

theorem complement_eq_xor_ones8 (a : Byte) : ~~~a = a ^^^ 0xFF := by
  have hones : (0xFF : Byte) = BitVec.allOnes 8 := by decide
  rw [hones, BitVec.xor_allOnes]

theorem complement_eq_xor_ones16 (a : Word) : ~~~a = a ^^^ 0xFFFF := by
  have hones : (0xFFFF : Word) = BitVec.allOnes 16 := by decide
  rw [hones, BitVec.xor_allOnes]

theorem run_notRm8 (s : State) (rm : RM8) :
    (notRm byteWidth rm s.cpu).run s = s.ends (s.cpu.reads8 rm ++ s.cpu.writes8 (s.operand8 rm ^^^ 0xFF) rm)
      (s.cpu.into8 (s.operand8 rm ^^^ 0xFF) rm) :=
  run_modify8 (complement_eq_xor_ones8 _) rfl

theorem run_notRm16 (s : State) (rm : RM16) :
    (notRm wordWidth rm s.cpu).run s = s.ends (s.cpu.reads16 rm ++ s.cpu.writes16 (s.operand16 rm ^^^ 0xFFFF) rm)
      (s.cpu.into16 (s.operand16 rm ^^^ 0xFFFF) rm) :=
  run_modify16 (complement_eq_xor_ones16 _) rfl

/-- Settles O11: each form reads its operand, then stores the difference from 0, or the bits flipped by a word of ones. -/
theorem negNot : Obligations.NegNot := fun s =>
  ⟨fun rm => ⟨exec_of_run (run_negRm8 s rm), Flags.afterSub_zero_cf _ _ _⟩,
    fun rm => ⟨exec_of_run (run_negRm16 s rm), Flags.afterSub_zero_cf _ _ _⟩,
    fun rm => exec_of_run (run_notRm8 s rm), fun rm => exec_of_run (run_notRm16 s rm)⟩

/-! ## MUL and IMUL (R220, R221) -/

/-- An instruction that loads a byte operand and ends. -/
theorem run_load8_retire {s : State} {rm : RM8} {f : Byte → Cpu} {c : Cpu} (h : f (s.operand8 rm) = c) :
    (byteWidth.load s.cpu (s.cpu.place rm) fun b => .retire (f b)).run s = s.ends (s.cpu.reads8 rm) c := by
  rw [run_load8, h]
  rfl

/-- An instruction that loads a word operand and ends. -/
theorem run_load16_retire {s : State} {rm : RM16} {f : Word → Cpu} {c : Cpu} (h : f (s.operand16 rm) = c) :
    (wordWidth.load s.cpu (s.cpu.place rm) fun b => .retire (f b)).run s = s.ends (s.cpu.reads16 rm) c := by
  rw [run_load16, h]
  rfl

theorem setWidth_mul_setWidth {n m : Nat} (a b : BitVec n) :
    a.setWidth m * b.setWidth m = BitVec.ofNat m (a.toNat * b.toNat) := by
  rw [BitVec.ofNat_mul, BitVec.ofNat_toNat, BitVec.ofNat_toNat]

theorem signExtend_mul_signExtend {n m : Nat} (a b : BitVec n) :
    a.signExtend m * b.signExtend m = BitVec.ofInt m (a.toInt * b.toInt) := by
  rw [BitVec.ofInt_mul]
  rfl

/-- A number in the range of the wider width is the sign extension of its lower part exactly if it is in the range of the
lower width. -/
theorem ofInt_eq_signExtend_iff {m n : Nat} (hn : 0 < n) (hnm : n ≤ m) {p : Int}
    (hle : -2 ^ (m - 1) ≤ p) (hlt : p < 2 ^ (m - 1)) :
    BitVec.ofInt m p = (BitVec.ofInt n p).signExtend m ↔ -2 ^ (n - 1) ≤ p ∧ p < 2 ^ (n - 1) := by
  rw [← BitVec.toInt_inj, BitVec.toInt_signExtend_of_le hnm,
    BitVec.toInt_ofInt_eq_self (Nat.lt_of_lt_of_le hn hnm) hle hlt]
  constructor
  · intro h
    have hlow := BitVec.le_toInt (BitVec.ofInt n p)
    have hhigh := BitVec.toInt_lt (x := BitVec.ofInt n p)
    omega
  · rintro ⟨h, h'⟩
    exact (BitVec.toInt_ofInt_eq_self hn h h').symm

theorem loByte_ofInt (p : Int) : loByte (BitVec.ofInt 16 p) = BitVec.ofInt 8 p := by
  apply BitVec.eq_of_toNat_eq
  rw [loByte, BitVec.toNat_setWidth, BitVec.toNat_ofInt, BitVec.toNat_ofInt]
  omega

theorem lowWord_ofInt (p : Int) : (BitVec.ofInt 32 p).extractLsb' 0 16 = BitVec.ofInt 16 p := by
  apply BitVec.eq_of_toNat_eq
  rw [BitVec.extractLsb'_toNat, Nat.shiftRight_zero, BitVec.toNat_ofInt, BitVec.toNat_ofInt]
  omega

theorem highWord_ofInt (p : Int) : (BitVec.ofInt 32 p).extractLsb' 16 16 = BitVec.ofInt 16 (p / 65536) := by
  apply BitVec.eq_of_toNat_eq
  rw [BitVec.extractLsb'_toNat, Nat.shiftRight_eq_div_pow, BitVec.toNat_ofInt, BitVec.toNat_ofInt]
  omega

theorem highWord_ofNat (p : Nat) : (BitVec.ofNat 32 p).extractLsb' 16 16 = BitVec.ofNat 16 (p / 65536) := highWord_ofInt p

theorem lowWord_ofNat (p : Nat) : (BitVec.ofNat 32 p).extractLsb' 0 16 = BitVec.ofNat 16 p := lowWord_ofInt p

theorem hiByte_ofNat (p : Nat) : hiByte (BitVec.ofNat 16 p) = BitVec.ofNat 8 (p / 256) := by
  apply BitVec.eq_of_toNat_eq
  rw [hiByte, BitVec.toNat_setWidth, BitVec.toNat_ushiftRight, Nat.shiftRight_eq_div_pow, BitVec.toNat_ofNat,
    BitVec.toNat_ofNat]
  omega

/-- The upper half of a product is not 0 exactly if the product does not fit the lower half. -/
theorem ofNat_div_ne_zero_iff {n p : Nat} (hp : p < 2 ^ n * 2 ^ n) : BitVec.ofNat n (p / 2 ^ n) ≠ 0 ↔ 2 ^ n ≤ p := by
  have hq : p / 2 ^ n < 2 ^ n := Nat.div_lt_of_lt_mul hp
  rw [ne_eq, BitVec.toNat_eq, BitVec.toNat_ofNat, Nat.mod_eq_of_lt hq]
  simp

theorem toNat_mul_toNat_lt {n : Nat} (a b : BitVec n) : a.toNat * b.toNat < 2 ^ n * 2 ^ n :=
  Nat.mul_lt_mul'' a.isLt b.isLt

theorem Cpu.mulByte_eq (c : Cpu) (b : Byte) :
    let p := (c.r8 .al).toNat * b.toNat
    c.mulByte b = { c with
      ax := BitVec.ofNat 16 p, flags := c.multiplyFlags (decide (256 ≤ p)), draws := c.draws + 8 } := by
  intro p
  have hcarry : BitVec.ofNat 8 (p / 256) ≠ 0 ↔ 256 ≤ p := ofNat_div_ne_zero_iff (toNat_mul_toNat_lt (c.r8 .al) b)
  rw [Cpu.mulByte, zext, zext, setWidth_mul_setWidth, hiByte_ofNat, decide_eq_decide.2 hcarry]
  rfl

theorem Cpu.mulWord_eq (c : Cpu) (b : Word) :
    let p := c.ax.toNat * b.toNat
    c.mulWord b = { c with
      dx := BitVec.ofNat 16 (p / 65536), ax := BitVec.ofNat 16 p, flags := c.multiplyFlags (decide (65536 ≤ p)),
      draws := c.draws + 8 } := by
  intro p
  have hcarry : BitVec.ofNat 16 (p / 65536) ≠ 0 ↔ 65536 ≤ p := ofNat_div_ne_zero_iff (toNat_mul_toNat_lt c.ax b)
  rw [Cpu.mulWord, Cpu.setDxax, setWidth_mul_setWidth, highWord_ofNat, lowWord_ofNat, decide_eq_decide.2 hcarry]
  rfl

theorem imul_fits_iff {n : Nat} (hn : 0 < n) (a b : BitVec n) :
    let p := a.toInt * b.toInt
    BitVec.ofInt (n + n) p = (BitVec.ofInt n p).signExtend (n + n) ↔ -2 ^ (n - 1) ≤ p ∧ p ≤ 2 ^ (n - 1) - 1 := by
  intro p
  have hpow : (2 : Int) ^ (n * 2 - 2) < 2 ^ (n + n - 1) := pow_lt_pow_right₀ (by decide) (by omega)
  have hlt := BitVec.toInt_mul_toInt_le (x := a) (y := b)
  have hle := BitVec.le_toInt_mul_toInt (x := a) (y := b)
  rw [Int.le_sub_one_iff]
  exact ofInt_eq_signExtend_iff hn (Nat.le_add_left n n) (by omega) (by omega)

theorem Cpu.imulByte_eq (c : Cpu) (b : Byte) :
    let p := (c.r8 .al).toInt * b.toInt
    c.imulByte b = { c with
      ax := BitVec.ofInt 16 p, flags := c.multiplyFlags (decide (¬(-128 ≤ p ∧ p ≤ 127))), draws := c.draws + 8 } := by
  intro p
  have hfits : BitVec.ofInt 16 p = (BitVec.ofInt 8 p).signExtend 16 ↔ -128 ≤ p ∧ p ≤ 127 :=
    imul_fits_iff (by decide) (c.r8 .al) b
  rw [Cpu.imulByte, sext, sext, sext, signExtend_mul_signExtend, loByte_ofInt, decide_eq_decide.2 (not_congr hfits)]
  rfl

theorem Cpu.imulWord_eq (c : Cpu) (b : Word) :
    let p := c.ax.toInt * b.toInt
    c.imulWord b = { c with
      dx := BitVec.ofInt 16 (p / 65536), ax := BitVec.ofInt 16 p,
      flags := c.multiplyFlags (decide (¬(-32768 ≤ p ∧ p ≤ 32767))), draws := c.draws + 8 } := by
  intro p
  have hfits : BitVec.ofInt 32 p = (BitVec.ofInt 16 p).signExtend 32 ↔ -32768 ≤ p ∧ p ≤ 32767 :=
    imul_fits_iff (by decide) c.ax b
  rw [Cpu.imulWord, Cpu.setDxax, signExtend_mul_signExtend, highWord_ofInt, lowWord_ofInt,
    decide_eq_decide.2 (not_congr hfits)]
  rfl

/-- Settles O17: each form loads one factor, and ends with the product and its flags. -/
theorem multiply : Obligations.Multiply := fun s =>
  ⟨fun _ => exec_of_run (run_load8_retire (s.cpu.mulByte_eq _)),
    fun _ => exec_of_run (run_load16_retire (s.cpu.mulWord_eq _)),
    fun _ => exec_of_run (run_load8_retire (s.cpu.imulByte_eq _)),
    fun _ => exec_of_run (run_load16_retire (s.cpu.imulWord_eq _))⟩

/-! ## DIV and IDIV (R222, R223) -/

theorem divide_of_fits {m n : Nat} {a : BitVec m} {d : BitVec n} (hd : d.toNat ≠ 0) (hq : a.toNat / d.toNat ≤ 2 ^ n - 1) :
    divide a d = some (BitVec.ofNat n (a.toNat / d.toNat), BitVec.ofNat n (a.toNat % d.toNat)) := by
  have hd' : d ≠ 0 := fun h => hd (by simp [h])
  have hq' : ¬2 ^ n ≤ a.toNat / d.toNat := Nat.not_le.2 (Nat.lt_of_le_pred (Nat.two_pow_pos n) hq)
  exact if_neg (not_or.2 ⟨hd', hq'⟩)

theorem divideSigned_of_fits {m n : Nat} {a : BitVec m} {d : BitVec n} (hd : d.toInt ≠ 0)
    (hle : -(2 ^ (n - 1) - 1) ≤ a.toInt.tdiv d.toInt) (hge : a.toInt.tdiv d.toInt ≤ 2 ^ (n - 1) - 1) :
    divideSigned a d = some (BitVec.ofInt n (a.toInt.tdiv d.toInt), BitVec.ofInt n (a.toInt.tmod d.toInt)) := by
  have hd' : d ≠ 0 := fun h => hd (by simp [h])
  exact if_neg (not_or.2 ⟨hd', not_or.2 ⟨not_lt.2 hge, not_lt.2 hle⟩⟩)

/-- A byte division that answers ends with the quotient in AL and the remainder in AH. -/
theorem run_divide8 {s : State} {rm : RM8} {f : Byte → Option (Byte × Byte)} {q r : Byte}
    (h : f (s.operand8 rm) = some (q, r)) :
    (byteWidth.load s.cpu (s.cpu.place rm) fun b => finishByteDivide (f b) s.cpu).run s =
      s.ends (s.cpu.reads8 rm) { s.cpu.divided with ax := r ++ q } := by
  rw [run_load8, h]
  rfl

/-- A word division that answers ends with the quotient in AX and the remainder in DX. -/
theorem run_divide16 {s : State} {rm : RM16} {f : Word → Option (Word × Word)} {q r : Word}
    (h : f (s.operand16 rm) = some (q, r)) :
    (wordWidth.load s.cpu (s.cpu.place rm) fun b => finishWordDivide (f b) s.cpu).run s =
      s.ends (s.cpu.reads16 rm) { s.cpu.divided with ax := q, dx := r } := by
  rw [run_load16, h]
  rfl

/-- Settles O18: where the quotient fits the division answers, and each form ends with what it answers. -/
theorem divideInstructions : Obligations.Divide := fun s =>
  ⟨fun _ hd hq => exec_of_run (run_divide8 (f := divide s.cpu.ax) (divide_of_fits hd hq)),
    fun _ hd hq => exec_of_run (run_divide16 (f := divide s.cpu.dxax) (divide_of_fits hd hq)),
    fun _ hd hle hge => exec_of_run (run_divide8 (f := divideSigned s.cpu.ax) (divideSigned_of_fits hd hle hge)),
    fun _ hd hle hge => exec_of_run (run_divide16 (f := divideSigned s.cpu.dxax) (divideSigned_of_fits hd hle hge))⟩

/-! ## The ASCII adjusts (R210 to R213) -/

theorem and_15_eq_ofNat (v : Byte) : v &&& 0x0F = BitVec.ofNat 8 (v.toNat % 16) := by
  have hlt : v.toNat % 16 < 2 ^ 8 := by omega
  apply BitVec.eq_of_toNat_eq
  rw [BitVec.toNat_and, BitVec.toNat_ofNat, Nat.mod_eq_of_lt hlt]
  exact Nat.and_two_pow_sub_one_eq_mod v.toNat 4

theorem add_and_15_eq_ofNat (v k : Byte) : (v + k) &&& 0x0F = BitVec.ofNat 8 ((v.toNat + k.toNat) % 16) := by
  rw [and_15_eq_ofNat, BitVec.toNat_add, Nat.mod_mod_of_dvd _ (by decide)]

/-- Subtracting 6 adds 10 to the low digit. -/
theorem sub_6_and_15_eq_ofNat (v : Byte) : (v - 6) &&& 0x0F = BitVec.ofNat 8 ((v.toNat + 10) % 16) := by
  have hlow : (v - 6).toNat % 16 = (v.toNat + 10) % 16 := by
    rw [BitVec.toNat_sub, show (6 : Byte).toNat = 6 from rfl]
    omega
  rw [and_15_eq_ofNat, hlow]

/-- An instruction without accesses ends with what it makes of the CPU. -/
theorem exec_of_retire {i : Instr} {s : State} {c d : Cpu} (hp : progOf i s.cpu = .retire c) (h : c = d) :
    exec i s = .next (s.ends [] d) :=
  exec_of_run (by rw [hp, h]; rfl)

theorem Cpu.aaa_eq (c : Cpu) :
    let al := c.r8 .al
    let ah := c.r8 .ah
    c.aaa = { c with
      ax := (if c.adjustsLow then ah + 1 else ah) ++ BitVec.ofNat 8 ((if c.adjustsLow then al.toNat + 6 else al.toNat) % 16)
      flags := c.asciiFlags, draws := c.draws + 8 } := by
  rw [Cpu.aaa, add_and_15_eq_ofNat, and_15_eq_ofNat]
  cases c.adjustsLow <;> rfl

theorem Cpu.aas_eq (c : Cpu) :
    let al := c.r8 .al
    let ah := c.r8 .ah
    c.aas = { c with
      ax := (if c.adjustsLow then ah - 1 else ah) ++ BitVec.ofNat 8 ((if c.adjustsLow then al.toNat + 10 else al.toNat) % 16)
      flags := c.asciiFlags, draws := c.draws + 8 } := by
  rw [Cpu.aas, sub_6_and_15_eq_ofNat, and_15_eq_ofNat]
  cases c.adjustsLow <;> rfl

/-- Settles O20: by the low digit of AL after each adjustment. -/
theorem asciiAdjust : Obligations.AsciiAdjust :=
  ⟨fun rest => ⟨decode_reads_encode .aaa rfl rest, decode_reads_encode .aas rfl rest⟩,
    fun s => ⟨exec_of_retire rfl s.cpu.aaa_eq, exec_of_retire rfl s.cpu.aas_eq⟩⟩

theorem udiv_eq_ofNat {n : Nat} (a d : BitVec n) : a / d = BitVec.ofNat n (a.toNat / d.toNat) := by
  rw [← BitVec.toNat_udiv, BitVec.ofNat_toNat, BitVec.setWidth_eq]

theorem umod_eq_ofNat {n : Nat} (a d : BitVec n) : a % d = BitVec.ofNat n (a.toNat % d.toNat) := by
  rw [← BitVec.toNat_umod, BitVec.ofNat_toNat, BitVec.setWidth_eq]

theorem mul_add_eq_ofNat {n : Nat} (a b c : BitVec n) : a * b + c = BitVec.ofNat n (a.toNat * b.toNat + c.toNat) := by
  simp [BitVec.ofNat_add, BitVec.ofNat_mul]

/-- AAM and AAD end with AH and AL joined, and the flags of AL as the rules word them. -/
theorem Cpu.asciiResult_eq (c : Cpu) {ah al hi lo : Byte} (hah : ah = hi) (hal : al = lo) :
    { c with ax := joinBytes ah al, flags := c.asciiResultFlags al }.drew = { c with
      ax := hi ++ lo
      flags := { c.flags.withSzp lo with
        cf := Config.freeBit c.draws, ovf := Config.freeBit (c.draws + 1), af := Config.freeBit (c.draws + 2) }
      draws := c.draws + 8 } := by
  rw [hah, hal, Cpu.asciiResultFlags, Flags.setSzp_eq_withSzp]
  rfl

/-- Settles O21: by the quotient and the remainder of AL, and by the sum of AH's multiple and AL. -/
theorem aamAad : Obligations.AamAad := fun s imm =>
  ⟨fun himm => exec_of_retire (if_neg himm) (s.cpu.asciiResult_eq (udiv_eq_ofNat _ imm) (umod_eq_ofNat _ imm)),
    exec_of_retire rfl (s.cpu.asciiResult_eq rfl (mul_add_eq_ofNat _ imm _))⟩

/-! ## The decimal adjusts (R214, R215) -/

theorem add_add_eq_ofNat {n : Nat} (a : BitVec n) (l h : Bool) (x y : Nat) :
    a + (if l then BitVec.ofNat n x else 0) + (if h then BitVec.ofNat n y else 0) =
      BitVec.ofNat n (a.toNat + (if l then x else 0) + (if h then y else 0)) := by
  cases l <;> cases h <;> simp [BitVec.ofNat_add]

theorem sub_ite_eq_add_ite {n : Nat} (a k : BitVec n) (l : Bool) :
    a - (if l then k else 0) = a + (if l then -k else 0) := by
  cases l with
  | false => simp
  | true => exact sub_eq_add_neg a k

/-- Subtracting 6 or 0x60 adds its complement. -/
theorem sub_sub_eq_add_add (a : Byte) (l h : Bool) :
    a - (if l then 6 else 0) - (if h then 0x60 else 0) = a + (if l then 0xFA else 0) + (if h then 0xA0 else 0) := by
  rw [sub_ite_eq_add_ite, sub_ite_eq_add_ite]
  rfl

/-- DAA and DAS end with AL as adjusted but on the disputed inputs, and its flags as the rules word them. -/
theorem Cpu.decimal_eq (c : Cpu) {adjusted v : Byte} (h : adjusted = v) :
    let al := if c.decimalDisputed then Config.freeByte c.draws else v
    c.decimal adjusted = { c.set8 .al al with
      flags := { c.flags.withSzp al with
        af := c.adjustsLow, cf := if c.decimalDisputed then Config.freeBit c.draws else c.adjustsHigh
        ovf := Config.freeBit (c.draws + 1) }
      draws := c.draws + 8 } := by
  rw [h, Cpu.decimal, Flags.setSzp_eq_withSzp]
  rfl

/-- Settles O22: both adjust AL by a sum, and end alike. -/
theorem decimalAdjust : Obligations.DecimalAdjust := fun s =>
  ⟨exec_of_retire rfl (s.cpu.decimal_eq (add_add_eq_ofNat _ _ _ 6 0x60)),
    exec_of_retire rfl (s.cpu.decimal_eq ((sub_sub_eq_add_add _ _ _).trans (add_add_eq_ofNat _ _ _ 0xFA 0xA0)))⟩

/-! ## CBW and CWD (R218, R219) -/

/-- A byte's sign extension has 0xFF or 0 above it. -/
theorem sext_eq_joinBytes (b : Byte) : sext b = joinBytes (if b.getLsbD 7 then 0xFF else 0x00) b := by
  have hmsb : b.msb = b.getLsbD 7 := BitVec.msb_eq_getLsbD_last b
  rw [sext, BitVec.signExtend_eq_append_of_le (by decide), hmsb]
  cases b.getLsbD 7 <;> rfl

/-- Settles O23: AH takes the sign bits of AL's extension, and DX those of AX. -/
theorem signExtension : Obligations.SignExtension := by
  refine ⟨fun rest => ⟨decode_reads_encode .cbw rfl rest, decode_reads_encode .cwd rfl rest⟩, fun s => ⟨?_, ?_⟩⟩
  · exact exec_of_retire rfl (by rw [sext_eq_joinBytes]; rfl)
  · exact exec_of_retire rfl (by rw [BitVec.msb_eq_getLsbD_last])

end Sys2Proof.Machine
end

section
/-!
The shifts and rotates: their one-bit steps and closed forms, and every form of them and of TEST (42_logic_shift.md R243,
R248 to R256).
-/
namespace Sys2Proof.Machine

/-! ## TEST (R243) -/

/-- TEST sets the flags of an AND. -/
theorem testing_eq {n : Nat} (hn : 4 < n) (a b : BitVec n) (c : Cpu) : testing a b c = .retire (c.afterAlu .and a b) :=
  congrArg Prog.retire (c.alu_eq_afterAlu hn .and a b)

theorem run_testRmImm8 (s : State) (rm : RM8) (imm : Byte) :
    (testRmImm byteWidth rm imm s.cpu).run s = s.ends (s.cpu.reads8 rm) (s.cpu.afterAlu .and (s.operand8 rm) imm) := by
  rw [testRmImm, run_load8, testing_eq (by decide)]
  rfl

theorem run_testRmImm16 (s : State) (rm : RM16) (imm : Word) :
    (testRmImm wordWidth rm imm s.cpu).run s = s.ends (s.cpu.reads16 rm) (s.cpu.afterAlu .and (s.operand16 rm) imm) := by
  rw [testRmImm, run_load16, testing_eq (by decide)]
  rfl

/-- Settles O9: the other forms are those with an immediate, the source taken from a register or the operand the
accumulator. -/
theorem testForms : Obligations.TestForms := fun s =>
  ⟨fun rm _ => exec_of_run (run_testRmImm8 s rm _), fun rm _ => exec_of_run (run_testRmImm16 s rm _),
    fun imm => exec_of_run (run_testRmImm8 s (.reg .al) imm), fun imm => exec_of_run (run_testRmImm16 s (.reg .ax) imm),
    fun rm imm => ⟨exec_of_run (run_testRmImm8 s rm imm), exec_of_run (run_testRmImm8 s rm imm)⟩,
    fun rm imm => ⟨exec_of_run (run_testRmImm16 s rm imm), exec_of_run (run_testRmImm16 s rm imm)⟩⟩

/-! ## The two directions of a one-bit step -/

theorem getLsbD_putBit {n i j : Nat} (hi : i < n) (hj : j < n) (v : BitVec n) (b : Bool) :
    (putBit v i b).getLsbD j = if j = i then b else v.getLsbD j := by
  by_cases hji : j = i
  · subst hji
    cases b <;> simp [putBit, hi]
  · cases b <;> simp [putBit, hj, hji]

/-- A bit that enters at the top of a value that moves one place down. -/
theorem getLsbD_putBit_ushiftRight {n i : Nat} (hi : i < n) (a : BitVec n) (b : Bool) :
    (putBit (a >>> 1) (n - 1) b).getLsbD i = if i = n - 1 then b else a.getLsbD (i + 1) := by
  rw [getLsbD_putBit (by omega) hi, BitVec.getLsbD_ushiftRight, Nat.add_comm]

theorem shiftLeft_or_bitOf {n : Nat} (a : BitVec n) (b : Bool) :
    a <<< 1 ||| BitVec.ofNat n (bitOf b) = a.shiftConcat b := by
  apply BitVec.eq_of_getLsbD_eq
  intro i hi
  rw [BitVec.getLsbD_shiftConcat, BitVec.getLsbD_or, BitVec.getLsbD_shiftLeft]
  cases b <;> cases i <;> simp [bitOf]

/-- A bit that enters at the bottom of a value that moves one place up. -/
theorem getMsbD_shiftLeft_or_bitOf {n i : Nat} (hi : i < n) (a : BitVec n) (b : Bool) :
    (a <<< 1 ||| BitVec.ofNat n (bitOf b)).getMsbD i = if i = n - 1 then b else a.getMsbD (i + 1) := by
  rw [shiftLeft_or_bitOf, BitVec.getMsbD_eq_getLsbD, BitVec.getLsbD_shiftConcat, BitVec.getMsbD_eq_getLsbD]
  by_cases hlast : i = n - 1
  · rw [if_pos hlast, if_pos (by omega), decide_eq_true hi, decide_eq_true (by omega)]
    rfl
  · rw [if_neg hlast, if_neg (by omega), decide_eq_true hi, decide_eq_true (by omega), decide_eq_true (by omega),
      Nat.sub_add_eq]
    rfl

/-! ## Rotations -/

theorem getLsbD_rotateRight_eq_mod {n i : Nat} (hi : i < n) (v : BitVec n) (r : Nat) :
    (v.rotateRight r).getLsbD i = v.getLsbD ((r + i) % n) := by
  have hr : r % n < n := Nat.mod_lt _ (Nat.zero_lt_of_lt hi)
  rw [BitVec.getLsbD_rotateRight, ← Nat.mod_add_mod r, Nat.add_mod_eq_ite, Nat.mod_mod, Nat.mod_eq_of_lt hi]
  by_cases h : i < n - r % n
  · rw [if_neg (by omega)]
    simp [h]
  · have hwrap : r % n + i - n = i - (n - r % n) := by omega
    rw [if_pos (by omega), hwrap]
    simp [h, hi]

theorem getMsbD_rotateLeft_eq_mod {n i : Nat} (hi : i < n) (v : BitVec n) (r : Nat) :
    (v.rotateLeft r).getMsbD i = v.getMsbD ((r + i) % n) := by
  rw [BitVec.getMsbD_rotateLeft, decide_eq_true hi, Bool.true_and]

theorem rotateRight_add {n : Nat} (v : BitVec n) (r t : Nat) : v.rotateRight (r + t) = (v.rotateRight r).rotateRight t := by
  apply BitVec.eq_of_getLsbD_eq
  intro i hi
  have hmod : (t + i) % n < n := Nat.mod_lt _ (Nat.zero_lt_of_lt hi)
  rw [getLsbD_rotateRight_eq_mod hi, getLsbD_rotateRight_eq_mod hi, getLsbD_rotateRight_eq_mod hmod, Nat.add_mod_mod,
    Nat.add_assoc]

theorem rotateLeft_add {n : Nat} (v : BitVec n) (r t : Nat) : v.rotateLeft (r + t) = (v.rotateLeft r).rotateLeft t := by
  apply BitVec.eq_of_getMsbD_eq
  intro i hi
  have hmod : (t + i) % n < n := Nat.mod_lt _ (Nat.zero_lt_of_lt hi)
  rw [getMsbD_rotateLeft_eq_mod hi, getMsbD_rotateLeft_eq_mod hi, getMsbD_rotateLeft_eq_mod hmod, Nat.add_mod_mod,
    Nat.add_assoc]

theorem rotateRight_zero {n : Nat} (v : BitVec n) : v.rotateRight 0 = v := by
  apply BitVec.eq_of_getLsbD_eq
  intro i hi
  rw [getLsbD_rotateRight_eq_mod hi, Nat.zero_add, Nat.mod_eq_of_lt hi]

theorem rotateLeft_zero {n : Nat} (v : BitVec n) : v.rotateLeft 0 = v := by
  apply BitVec.eq_of_getMsbD_eq
  intro i hi
  rw [getMsbD_rotateLeft_eq_mod hi, Nat.zero_add, Nat.mod_eq_of_lt hi]

/-- The place after the last is the first. -/
theorem one_add_mod_eq_ite {n i : Nat} (hi : i < n) : (1 + i) % n = if i = n - 1 then 0 else i + 1 := by
  split
  · rw [show 1 + i = n by omega, Nat.mod_self]
  · rw [Nat.mod_eq_of_lt (by omega), Nat.add_comm]

/-- The bit that leaves at the top enters at the bottom. -/
theorem shiftLeft_or_msb_eq_rotateLeft {n : Nat} (a : BitVec n) :
    a <<< 1 ||| BitVec.ofNat n (bitOf a.msb) = a.rotateLeft 1 := by
  apply BitVec.eq_of_getMsbD_eq
  intro i hi
  rw [getMsbD_shiftLeft_or_bitOf hi, getMsbD_rotateLeft_eq_mod hi, one_add_mod_eq_ite hi]
  split <;> rfl

/-- The bit that leaves at the bottom enters at the top. -/
theorem putBit_ushiftRight_eq_rotateRight {n : Nat} (a : BitVec n) :
    putBit (a >>> 1) (n - 1) (a.getLsbD 0) = a.rotateRight 1 := by
  apply BitVec.eq_of_getLsbD_eq
  intro i hi
  rw [getLsbD_putBit_ushiftRight hi, getLsbD_rotateRight_eq_mod hi, one_add_mod_eq_ite hi]
  split <;> rfl

/-- The carry enters at the bottom, and the bit that leaves at the top becomes the carry above it. -/
theorem cons_shiftLeft_or_eq_rotateLeft {n : Nat} (hn : 0 < n) (cf : Bool) (a : BitVec n) :
    BitVec.cons a.msb (a <<< 1 ||| BitVec.ofNat n (bitOf cf)) = (BitVec.cons cf a).rotateLeft 1 := by
  apply BitVec.eq_of_getMsbD_eq
  intro i hi
  rw [getMsbD_rotateLeft_eq_mod hi, one_add_mod_eq_ite hi]
  cases i with
  | zero =>
    rw [BitVec.getMsbD_cons_zero, if_neg (by omega), BitVec.getMsbD_cons_succ]
    rfl
  | succ k =>
    rw [BitVec.getMsbD_cons_succ, getMsbD_shiftLeft_or_bitOf (by omega)]
    by_cases hlast : k = n - 1
    · rw [if_pos hlast, if_pos (by omega), BitVec.getMsbD_cons_zero]
    · rw [if_neg hlast, if_neg (by omega), BitVec.getMsbD_cons_succ]

/-- The bit that leaves at the bottom becomes the carry, and the carry enters at the top. -/
theorem cons_putBit_eq_rotateRight {n : Nat} (hn : 0 < n) (cf : Bool) (a : BitVec n) :
    BitVec.cons (a.getLsbD 0) (putBit (a >>> 1) (n - 1) cf) = (BitVec.cons cf a).rotateRight 1 := by
  apply BitVec.eq_of_getLsbD_eq
  intro i hi
  rw [getLsbD_rotateRight_eq_mod hi, one_add_mod_eq_ite hi, Nat.add_sub_cancel, BitVec.getLsbD_cons, BitVec.getLsbD_cons]
  by_cases hcarry : i = n
  · simp [hcarry, hn.ne]
  · rw [if_neg hcarry, if_neg hcarry, getLsbD_putBit_ushiftRight (by omega)]
    exact if_congr (by omega) rfl rfl

/-- The sign enters at the top. -/
theorem putBit_msb_eq_sshiftRight {n : Nat} (a : BitVec n) :
    putBit (a >>> 1) (n - 1) a.msb = a.sshiftRight 1 := by
  apply BitVec.eq_of_getLsbD_eq
  intro i hi
  rw [getLsbD_putBit_ushiftRight hi, BitVec.getLsbD_sshiftRight]
  by_cases hlast : i = n - 1
  · rw [if_pos hlast, if_neg (by omega)]
    simp [hi]
  · rw [if_neg hlast, if_pos (by omega)]
    simp [hi, Nat.add_comm]

/-! ## Counts (R248) -/

/-- The last of the steps comes after the others. -/
theorem ShiftOp.steps_succ {n : Nat} (op : ShiftOp) (c : Nat) (x : Bool × BitVec n) :
    op.steps (c + 1) x = op.step (op.steps c x) := by
  induction c generalizing x with
  | zero => rfl
  | succ c ih => exact ih (op.step x)

/-- The steps move a value by their number where one step moves it by 1. -/
theorem ShiftOp.steps_move {n : Nat} {α : Type} (op : ShiftOp) {f : Bool × BitVec n → α} {move : α → Nat → α}
    (hzero : ∀ v, move v 0 = v) (hadd : ∀ v r t, move v (r + t) = move (move v r) t)
    (hstep : ∀ x, f (op.step x) = move (f x) 1) (c : Nat) (x : Bool × BitVec n) :
    f (op.steps c x) = move (f x) c := by
  induction c with
  | zero => exact (hzero _).symm
  | succ c ih => rw [ShiftOp.steps_succ, hstep, ih, ← hadd]

/-! ## ROL and ROR (R250, R251) -/

theorem ShiftOp.rol_steps {n : Nat} (c : Nat) (x : Bool × BitVec n) : (ShiftOp.rol.steps c x).2 = x.2.rotateLeft c :=
  ShiftOp.steps_move .rol (f := Prod.snd) rotateLeft_zero rotateLeft_add
    (fun x => shiftLeft_or_msb_eq_rotateLeft x.2) c x

theorem ShiftOp.ror_steps {n : Nat} (c : Nat) (x : Bool × BitVec n) : (ShiftOp.ror.steps c x).2 = x.2.rotateRight c :=
  ShiftOp.steps_move .ror (f := Prod.snd) rotateRight_zero rotateRight_add
    (fun x => putBit_ushiftRight_eq_rotateRight x.2) c x

theorem ShiftOp.rol_step_cf {n : Nat} (hn : 0 < n) (x : Bool × BitVec n) :
    (ShiftOp.rol.step x).1 = (ShiftOp.rol.step x).2.getLsbD 0 := by
  have h0 : (x.2 <<< 1 ||| BitVec.ofNat n (bitOf x.2.msb)).getLsbD 0 = x.2.msb := by
    simp [shiftLeft_or_bitOf, BitVec.getElem_shiftConcat, hn]
  exact h0.symm

theorem ShiftOp.ror_step_cf {n : Nat} (hn : 0 < n) (x : Bool × BitVec n) :
    (ShiftOp.ror.step x).1 = (ShiftOp.ror.step x).2.getLsbD (n - 1) :=
  ((getLsbD_putBit_ushiftRight (by omega) x.2 _).trans (if_pos rfl)).symm

/-- Settles O12: a step rotates by 1, and the last one leaves in CF the bit that it brings round. -/
theorem rotateClosedForm : Obligations.RotateClosedForm := by
  intro n c cf a hn
  rw [BitVec.rotateLeft_mod_eq_rotateLeft, BitVec.rotateRight_mod_eq_rotateRight]
  refine ⟨ShiftOp.rol_steps c _, ShiftOp.ror_steps c _, fun hc => ?_⟩
  obtain ⟨k, rfl⟩ := Nat.exists_eq_add_of_le' hc
  rw [ShiftOp.steps_succ, ShiftOp.steps_succ]
  exact ⟨ShiftOp.rol_step_cf hn _, ShiftOp.ror_step_cf hn _⟩

/-! ## RCL and RCR (R252, R253) -/

/-- Settles O13: a step rotates CF and the operand, taken as one number, by 1. -/
theorem rotateThroughCarryClosedForm : Obligations.RotateThroughCarryClosedForm := by
  intro n c cf a hn
  rw [BitVec.rotateLeft_mod_eq_rotateLeft, BitVec.rotateRight_mod_eq_rotateRight]
  exact ⟨ShiftOp.steps_move .rcl (f := fun x => BitVec.cons x.1 x.2) rotateLeft_zero rotateLeft_add
      (fun x => cons_shiftLeft_or_eq_rotateLeft hn x.1 x.2) c (cf, a),
    ShiftOp.steps_move .rcr (f := fun x => BitVec.cons x.1 x.2) rotateRight_zero rotateRight_add
      (fun x => cons_putBit_eq_rotateRight hn x.1 x.2) c (cf, a)⟩

/-! ## SHL, SHR and SAR (R254 to R256) -/

theorem ShiftOp.shl_steps {n : Nat} (c : Nat) (x : Bool × BitVec n) : (ShiftOp.shl.steps c x).2 = x.2 <<< c :=
  ShiftOp.steps_move .shl (f := Prod.snd) BitVec.shiftLeft_zero BitVec.shiftLeft_add (fun _ => rfl) c x

theorem ShiftOp.shr_steps {n : Nat} (c : Nat) (x : Bool × BitVec n) : (ShiftOp.shr.steps c x).2 = x.2 >>> c :=
  ShiftOp.steps_move .shr (f := Prod.snd) BitVec.ushiftRight_zero BitVec.shiftRight_add (fun _ => rfl) c x

theorem ShiftOp.sar_steps {n : Nat} (c : Nat) (x : Bool × BitVec n) : (ShiftOp.sar.steps c x).2 = x.2.sshiftRight c :=
  ShiftOp.steps_move .sar (f := Prod.snd) (fun _ => BitVec.sshiftRight_zero) (fun _ _ _ => BitVec.sshiftRight_add)
    (fun x => putBit_msb_eq_sshiftRight x.2) c x

/-- SHL leaves in CF the highest bit of the operand shifted by one less. -/
theorem ShiftOp.shl_steps_cf {n : Nat} (hn : 0 < n) (k : Nat) (x : Bool × BitVec n) :
    (ShiftOp.shl.steps (k + 1) x).1 = (decide (k + 1 ≤ n) && x.2.getLsbD (n - (k + 1))) := by
  have hcf : (ShiftOp.shl.steps (k + 1) x).1 = (x.2 <<< k).msb := by rw [ShiftOp.steps_succ, ← ShiftOp.shl_steps]; rfl
  rw [hcf, BitVec.msb_eq_getLsbD_last, BitVec.getLsbD_shiftLeft, Nat.sub_add_eq, Nat.sub_right_comm]
  by_cases hk : k + 1 ≤ n
  · simp [hk, hn, show ¬n - 1 < k by omega]
  · simp [hk, show n - 1 < k by omega]

/-- SHR leaves in CF the lowest bit of the operand shifted by one less. -/
theorem ShiftOp.shr_steps_cf {n : Nat} (k : Nat) (x : Bool × BitVec n) :
    (ShiftOp.shr.steps (k + 1) x).1 = (decide (k + 1 ≤ n) && x.2.getLsbD k) := by
  have hcf : (ShiftOp.shr.steps (k + 1) x).1 = (x.2 >>> k).getLsbD 0 := by
    rw [ShiftOp.steps_succ, ← ShiftOp.shr_steps]; rfl
  rw [hcf, BitVec.getLsbD_ushiftRight, Nat.add_zero]
  by_cases hk : k + 1 ≤ n
  · simp [hk]
  · simp [hk, BitVec.getLsbD_of_ge _ _ (Nat.not_lt.1 hk)]

/-- SAR leaves in CF the lowest bit of the operand shifted by one less. -/
theorem ShiftOp.sar_steps_cf {n : Nat} (hn : 0 < n) (k : Nat) (x : Bool × BitVec n) :
    (ShiftOp.sar.steps (k + 1) x).1 = if k + 1 ≤ n then x.2.getLsbD k else x.2.msb := by
  have hcf : (ShiftOp.sar.steps (k + 1) x).1 = (x.2.sshiftRight k).getLsbD 0 := by
    rw [ShiftOp.steps_succ, ← ShiftOp.sar_steps]; rfl
  rw [hcf, BitVec.getLsbD_sshiftRight, decide_eq_false (Nat.not_le.2 hn)]
  rfl

/-- Settles O14: a step shifts by 1, and the last one leaves in CF the bit that it shifts out. -/
theorem shiftClosedForm : Obligations.ShiftClosedForm := by
  intro n c cf a hn
  refine ⟨⟨ShiftOp.shl_steps c _, ShiftOp.shr_steps c _, ShiftOp.sar_steps c _⟩, fun hc => ?_⟩
  obtain ⟨k, rfl⟩ := Nat.exists_eq_add_of_le' hc
  exact ⟨ShiftOp.shl_steps_cf hn k _, ShiftOp.shr_steps_cf k _, ShiftOp.sar_steps_cf hn k _⟩

/-- Settles O16: the top bit of an operand is bit `n - 1`. -/
theorem shiftOverflow : Obligations.ShiftOverflow := by
  intro n cf a _
  simp only [ShiftOp.overflow, BitVec.msb_eq_getLsbD_last, and_self]

/-! ## Every form (R248) -/

/-- A count of 0 changes no flag; another sets CF and OF, and a shift SF, ZF and PF, with OF and AF free as the rule
says. -/
theorem Cpu.shifted_eq {n : Nat} (c : Cpu) (op : ShiftOp) (count : Nat) (a : BitVec n) :
    let x := op.steps count (c.flags.cf, a)
    let f := { c.flags with
      cf := x.1, ovf := if count = 1 then op.overflow a x.2 x.1 else Config.freeBit c.draws }
    let g := if op.isShift then { f.withSzp x.2 with af := Config.freeBit (c.draws + 1) } else f
    c.shifted op count a = if count = 0 then c else { c with flags := g, draws := c.draws + 8 } := by
  simp only [Cpu.shifted, Flags.setSzp_eq_withSzp]
  rfl

theorem run_shiftRm8 {s : State} {op : ShiftOp} {rm : RM8} {count : Nat} {c : Cpu}
    (hc : s.cpu.shifted op count (s.operand8 rm) = c) :
    let v := (op.steps count (s.cpu.flags.cf, s.operand8 rm)).2
    (shiftRm byteWidth op rm count s.cpu).run s = s.ends (s.cpu.reads8 rm ++ s.cpu.writes8 v rm) (c.into8 v rm) :=
  run_modify8 rfl hc

theorem run_shiftRm16 {s : State} {op : ShiftOp} {rm : RM16} {count : Nat} {c : Cpu}
    (hc : s.cpu.shifted op count (s.operand16 rm) = c) :
    let v := (op.steps count (s.cpu.flags.cf, s.operand16 rm)).2
    (shiftRm wordWidth op rm count s.cpu).run s = s.ends (s.cpu.reads16 rm ++ s.cpu.writes16 v rm) (c.into16 v rm) :=
  run_modify16 rfl hc

/-- Settles O15: each form is the operation of its width, by the count 1 or by CL. -/
theorem shiftForms : Obligations.ShiftForms := by
  intro op s
  refine ⟨fun rm => ?_, fun rm => ?_, fun rm => ?_, fun rm => ?_⟩
  · cases op <;> exact exec_of_run (run_shiftRm8 (s.cpu.shifted_eq _ 1 _))
  · cases op <;> exact exec_of_run (run_shiftRm8 (s.cpu.shifted_eq _ _ _))
  · cases op <;> exact exec_of_run (run_shiftRm16 (s.cpu.shifted_eq _ 1 _))
  · cases op <;> exact exec_of_run (run_shiftRm16 (s.cpu.shifted_eq _ _ _))

end Sys2Proof.Machine
end

section
/-!
The string instructions, alone and repeated (43_string.md R270 to R277).
-/
namespace Sys2Proof.Machine

/-! ## One element (R270 to R275) -/

/-- One iteration at the width that the low bit of the opcode gives (43_string.md R270 to R274). -/
def elementProg (op : StringOp) (wide : Bool) (c : Cpu) (k : Cpu → Prog) : Prog :=
  if wide then iteration wordWidth op c k else iteration byteWidth op c k

theorem Cpu.compared_eq_afterSub {n : Nat} (hn : 4 < n) (c : Cpu) (a b : BitVec n) :
    c.compared a b = { c with flags := c.flags.afterSub a b (BitVec.ofInt n (a.toNat - b.toNat)) 0 } := by
  simp [Cpu.compared, Flags.sub_eq_afterSub hn, bitOf]

theorem Cpu.delta_byte (c : Cpu) : c.delta byteWidth.bytes = c.stride false := by
  unfold Cpu.delta Cpu.stride
  cases c.flags.df <;> rfl

theorem Cpu.delta_word (c : Cpu) : c.delta wordWidth.bytes = c.stride true := by
  unfold Cpu.delta Cpu.stride
  cases c.flags.df <;> rfl

theorem run_iteration8 (s : State) (op : StringOp) (k : Cpu → Prog) :
    (iteration byteWidth op s.cpu k).run s = (k (s.element op false).2).run (s.performs (s.element op false).1) := by
  have hflags := Cpu.compared_eq_afterSub (n := 8) (by decide)
  cases op with
  | movs => simp only [iteration, Cpu.moveSi, Cpu.moveDi, Cpu.delta_byte]; rfl
  | cmps => simp only [iteration, Cpu.moveSi, Cpu.moveDi, Cpu.delta_byte, hflags]; rfl
  | scas => simp only [iteration, Cpu.moveDi, Cpu.delta_byte, hflags]; rfl
  | lods => simp only [iteration, Cpu.moveSi, Cpu.delta_byte]; rfl
  | stos => simp only [iteration, Cpu.moveDi, Cpu.delta_byte]; rfl

theorem run_iteration16 (s : State) (op : StringOp) (k : Cpu → Prog) :
    (iteration wordWidth op s.cpu k).run s = (k (s.element op true).2).run (s.performs (s.element op true).1) := by
  have hflags := Cpu.compared_eq_afterSub (n := 16) (by decide)
  unfold State.element
  cases op with
  | movs => simp only [iteration, Cpu.moveSi, Cpu.moveDi, Cpu.delta_word, wordWrites, ← hiByte_eq]; rfl
  | cmps => simp only [iteration, Cpu.moveSi, Cpu.moveDi, Cpu.delta_word, hflags]; rfl
  | scas => simp only [iteration, Cpu.moveDi, Cpu.delta_word, hflags]; rfl
  | lods => simp only [iteration, Cpu.moveSi, Cpu.delta_word]; rfl
  | stos => simp only [iteration, Cpu.moveDi, Cpu.delta_word, wordWrites, ← hiByte_eq]; rfl

theorem run_elementProg (s : State) (op : StringOp) (wide : Bool) (k : Cpu → Prog) :
    (elementProg op wide s.cpu k).run s = (k (s.element op wide).2).run (s.performs (s.element op wide).1) := by
  cases wide with
  | false => exact run_iteration8 s op k
  | true => exact run_iteration16 s op k

theorem progOf_stringOf_unmarked (op : StringOp) (wide : Bool) {c : Cpu} (h : c.repMark = none) :
    progOf (stringOf op wide) c = elementProg op wide c .retire := by
  have hprog : ∀ {n : Nat} {R : Type} (w : Width n R) o, stringInstr w op o c = iteration w op c .retire := fun _ _ => by
    simp only [stringInstr, h]
  cases op <;> cases wide <;> exact hprog _ _

theorem decode_stringCode (op : StringOp) (wide : Bool) (rest : List Byte) :
    decode (stringCode op wide :: rest) = .ok (stringOf op wide) rest := by
  have hwf : (stringOf op wide).wf = true := by cases op <;> cases wide <;> rfl
  have hcode : encode (stringOf op wide) = [stringCode op wide] := by cases op <;> cases wide <;> rfl
  have hreads := decode_reads_encode _ hwf rest
  rwa [hcode] at hreads

/-- Settles O32: the program is that of one element. -/
theorem stringOnce : Obligations.StringOnce := by
  refine ⟨decode_stringCode, fun op wide s h => ?_⟩
  rw [exec_eq, progOf_stringOf_unmarked op wide h, run_elementProg]
  rfl

/-! ## One element of a repeated instruction (R276, R277) -/

theorem progOf_stringOf_zero (op : StringOp) (wide : Bool) {c : Cpu} {kind : RepKind} (h : c.repMark = some kind)
    (hcx : c.cx = 0) : progOf (stringOf op wide) c = .retire c := by
  have hprog : ∀ {n : Nat} {R : Type} (w : Width n R) o, stringInstr w op o c = .retire c := fun _ _ => by
    simp only [stringInstr, h, if_pos hcx]
  cases op <;> cases wide <;> exact hprog _ _

theorem progOf_stringOf_marked (op : StringOp) (wide : Bool) {c : Cpu} {kind : RepKind} (h : c.repMark = some kind)
    (hcx : c.cx ≠ 0) :
    let d := c.repeating kind (stringCode op wide)
    progOf (stringOf op wide) c = .note d (elementProg op wide d (afterIteration op kind)) := by
  have hprog : ∀ {n : Nat} {R : Type} (w : Width n R) o,
      stringInstr w op o c = .note (c.repeating kind o) (iteration w op (c.repeating kind o) (afterIteration op kind)) :=
    fun _ _ => by simp only [stringInstr, h, if_neg hcx]
  cases op <;> cases wide <;> exact hprog _ _

/-- `REP_ACTIVE` may as well be set after the element: no iteration looks at it. -/
theorem elementProg_repeating (op : StringOp) (wide : Bool) (c : Cpu) (kind : RepKind) (o : Byte) (k : Cpu → Prog) :
    elementProg op wide (c.repeating kind o) k = elementProg op wide c fun d => k (d.repeating kind o) := by
  cases op <;> cases wide <;> rfl

theorem repeatDone_iff (op : StringOp) (kind : RepKind) (c : Cpu) :
    repeatDone op kind c = true ↔
      c.cx = 0 ∨ ((op = .cmps ∨ op = .scas) ∧ c.flags.zf ≠ decide (kind = .rep)) := by
  have hcompares : op.compares = true ↔ op = .cmps ∨ op = .scas := by cases op <;> decide
  have hzf : repeatZ kind = decide (kind = .rep) := by cases kind <;> rfl
  rw [repeatDone, Bool.or_eq_true, Bool.and_eq_true, decide_eq_true_iff, decide_eq_true_iff, hcompares, hzf, or_comm]

/-- With CX not 0 one element is done, after which CX is one less and `REP_ACTIVE` is set; an element moves neither CX
nor IP (43_string.md R276). -/
theorem exec_stringOf_marked (op : StringOp) (wide : Bool) {s : State} {kind : RepKind} (h : s.cpu.repMark = some kind)
    (hcx : s.cpu.cx ≠ 0) :
    let c := { (s.element op wide).2 with
      cx := s.cpu.cx - 1, repActive := some { kind := kind, opcode := stringCode op wide, resume := s.cpu.ip - 2 } }
    exec (stringOf op wide) s =
      .next ((if repeatDone op kind c then Prog.retire c else .more c).run (s.performs (s.element op wide).1)) := by
  rw [exec_eq, progOf_stringOf_marked op wide h hcx, Prog.run_note, elementProg_repeating, run_elementProg]
  cases op <;> cases wide <;> rfl

/-- Settles O33: after the element the instruction completes or stays active. -/
theorem stringRepeated : Obligations.StringRepeated := by
  intro op wide s kind h
  refine ⟨fun hcx => ?_, fun hcx => ?_⟩
  · rw [exec_eq, progOf_stringOf_zero op wide h hcx]
    rfl
  · intro rs c ends
    have hdone : repeatDone op kind
        { c with repActive := some { kind := kind, opcode := stringCode op wide, resume := s.cpu.ip - 2 } } = true ↔ ends :=
      repeatDone_iff op kind _
    rw [exec_stringOf_marked op wide h hcx]
    refine ⟨fun hends => ?_, fun hgoes => ?_⟩
    · rw [if_pos (hdone.2 hends)]
      rfl
    · rw [if_neg (mt hdone.1 hgoes)]
      rfl

/-! ## Iterations (R276) -/

/-- Executing always goes on, so the last of some iterations may be told apart from those before it. -/
theorem State.exec_again (i : Instr) (k : Nat) (s : State) : exec i (s.again i k) = .next (s.again i (k + 1)) := by
  induction k generalizing s with
  | zero => simp [State.again, exec_eq]
  | succ k ih => simpa only [State.again, exec_eq] using ih ((progOf i s.cpu).run s)

theorem State.again_succ_eq {i : Instr} {k : Nat} {s t : State} (h : exec i (s.again i k) = .next t) :
    s.again i (k + 1) = t := by
  rw [State.exec_again] at h
  exact Host.Outcome.next.inj h

/-- The CPU after so many elements of MOVS, LODS or STOS under a repeat mark, but for AX, which LODS loads. -/
def Cpu.afterElements (c : Cpu) (op : StringOp) (wide : Bool) (k : Nat) : Cpu :=
  { c with
    cx := c.cx - BitVec.ofNat 16 k
    si := c.si + BitVec.ofNat 16 k * (if op = .stos then 0 else c.stride wide)
    di := c.di + BitVec.ofNat 16 k * (if op = .lods then 0 else c.stride wide) }

theorem Cpu.afterElements_zero (c : Cpu) (op : StringOp) (wide : Bool) : c.afterElements op wide 0 = c := by
  simp [Cpu.afterElements]

theorem Cpu.afterElements_succ (c : Cpu) (op : StringOp) (wide : Bool) (k : Nat) :
    (c.afterElements op wide k).afterElements op wide 1 = c.afterElements op wide (k + 1) := by
  have hcx : c.cx - BitVec.ofNat 16 (k + 1) = c.cx - BitVec.ofNat 16 k - BitVec.ofNat 16 1 := by
    rw [BitVec.ofNat_add]; ring
  have hindex : ∀ v m : Word,
      v + BitVec.ofNat 16 (k + 1) * m = v + BitVec.ofNat 16 k * m + BitVec.ofNat 16 1 * m := fun v m => by
    rw [BitVec.ofNat_add]; ring
  simp only [Cpu.afterElements, hcx, hindex]
  rfl

/-- An element of MOVS, LODS or STOS moves the indexes it uses, and only LODS loads AX. -/
theorem State.element_eq_afterElements (s : State) {op : StringOp} (wide : Bool)
    (h : op = .movs ∨ op = .lods ∨ op = .stos) :
    ∃ a, { (s.element op wide).2 with cx := s.cpu.cx - 1 } = { s.cpu.afterElements op wide 1 with ax := a } ∧
      (op ≠ .lods → a = s.cpu.ax) := by
  have hone : ∀ m : Word, BitVec.ofNat 16 1 * m = m := one_mul
  have hzero : ∀ m : Word, m + 0 = m := add_zero
  refine ⟨(s.element op wide).2.ax, ?_, fun hlods => ?_⟩
  · simp only [Cpu.afterElements, hone]
    obtain rfl | rfl | rfl := h <;> cases wide <;> simp only [reduceCtorEq, if_true, if_false, hzero] <;> rfl
  · obtain rfl | rfl | rfl := h
    · cases wide <;> rfl
    · exact absurd rfl hlods
    · cases wide <;> rfl

section
variable {op : StringOp} {s : State} {kind : RepKind} (hop : op = .movs ∨ op = .lods ∨ op = .stos)
include hop

/-- MOVS, LODS and STOS end only as CX runs out. -/
theorem repeatDone_iff_cx (c : Cpu) : repeatDone op kind c = true ↔ c.cx = 0 := by
  have hcmp : ¬(op = .cmps ∨ op = .scas) := by obtain rfl | rfl | rfl := hop <;> decide
  simp [repeatDone_iff, hcmp]

/-- An element that is not the last. -/
theorem exec_stringOf_goes_on (wide : Bool) (h : s.cpu.repMark = some kind) (hcx : 1 < s.cpu.cx.toNat) :
    ∃ a r, exec (stringOf op wide) s = .next { s.performs (s.element op wide).1 with
        cpu := { s.cpu.afterElements op wide 1 with ax := a, repActive := some r } } ∧
      (op ≠ .lods → a = s.cpu.ax) := by
  obtain ⟨a, hcpu, ha⟩ := s.element_eq_afterElements wide hop
  have hgoes : s.cpu.cx - 1 ≠ 0 := by bv_omega
  let r : Repeating := { kind := kind, opcode := stringCode op wide, resume := s.cpu.ip - 2 }
  have hactive := congrArg (fun d : Cpu => { d with repActive := some r }) hcpu
  refine ⟨a, r, ?_, ha⟩
  rw [exec_stringOf_marked op wide h (by bv_omega), if_neg (mt (repeatDone_iff_cx hop _).1 hgoes), ← hactive]
  rfl

/-- The last element. -/
theorem exec_stringOf_ends (wide : Bool) (h : s.cpu.repMark = some kind) (hcx : s.cpu.cx = 1) :
    ∃ a, exec (stringOf op wide) s =
        .next (s.ends (s.element op wide).1 { s.cpu.afterElements op wide 1 with ax := a }) := by
  obtain ⟨a, hcpu, -⟩ := s.element_eq_afterElements wide hop
  have hends : s.cpu.cx - 1 = 0 := by bv_omega
  refine ⟨a, ?_⟩
  rw [exec_stringOf_marked op wide h (by bv_omega), if_pos ((repeatDone_iff_cx hop _).2 hends), ← hcpu]
  rfl

theorem State.again_cpu (wide : Bool) (h : s.cpu.repMark = some kind) {k : Nat} (hk : k < s.cpu.cx.toNat) :
    ∃ a r, (s.again (stringOf op wide) k).cpu = { s.cpu.afterElements op wide k with ax := a, repActive := r } ∧
      (op ≠ .lods → a = s.cpu.ax) ∧ (0 < k → r.isSome = true) := by
  induction k with
  | zero => exact ⟨s.cpu.ax, s.cpu.repActive, by rw [Cpu.afterElements_zero]; rfl, fun _ => rfl, nofun⟩
  | succ k ih =>
    obtain ⟨a, r, hcpu, ha, -⟩ := ih (Nat.lt_of_succ_lt hk)
    have hmark : (s.again (stringOf op wide) k).cpu.repMark = some kind := by rw [hcpu]; exact h
    have hcx : (s.again (stringOf op wide) k).cpu.cx = s.cpu.cx - BitVec.ofNat 16 k := by rw [hcpu]; rfl
    obtain ⟨b, q, hexec, hb⟩ := exec_stringOf_goes_on hop wide hmark (by rw [hcx]; bv_omega)
    refine ⟨b, some q, ?_, fun hlods => ?_, fun _ => rfl⟩
    · rw [State.again_succ_eq hexec, hcpu, ← s.cpu.afterElements_succ op wide k]
      rfl
    · rw [hb hlods, hcpu]
      exact ha hlods

/-- The repeat mark stays until the last element, and CX counts down. -/
theorem State.again_repMark_cx (wide : Bool) (h : s.cpu.repMark = some kind) {k : Nat} (hk : k < s.cpu.cx.toNat) :
    (s.again (stringOf op wide) k).cpu.repMark = some kind ∧
      (s.again (stringOf op wide) k).cpu.cx = s.cpu.cx - BitVec.ofNat 16 k := by
  obtain ⟨a, r, hcpu, -, -⟩ := State.again_cpu hop wide h hk
  rw [hcpu]
  exact ⟨h, rfl⟩

/-- The CPU after CX elements: the last of them is the one with CX 1. -/
theorem State.again_cpu_all (wide : Bool) (h : s.cpu.repMark = some kind) (hcx : s.cpu.cx ≠ 0) :
    ∃ a, (s.again (stringOf op wide) s.cpu.cx.toNat).cpu =
      { s.cpu.afterElements op wide s.cpu.cx.toNat with ax := a }.endInstr := by
  obtain ⟨k, hk⟩ : ∃ k, s.cpu.cx.toNat = k + 1 := Nat.exists_eq_succ_of_ne_zero (by bv_omega)
  have hlt : k < s.cpu.cx.toNat := by omega
  obtain ⟨a, r, hcpu, -, -⟩ := State.again_cpu hop wide h hlt
  obtain ⟨hmark, hleft⟩ := State.again_repMark_cx hop wide h hlt
  obtain ⟨b, hexec⟩ := exec_stringOf_ends hop wide hmark (by rw [hleft]; bv_omega)
  refine ⟨b, ?_⟩
  rw [hk, State.again_succ_eq hexec, hcpu, ← s.cpu.afterElements_succ op wide k]
  rfl
end

/-- Settles O34: by the CPU after each element. -/
theorem repeatRuns : Obligations.RepeatRuns := by
  intro op wide s hop hmark hcx
  obtain ⟨kind, hkind⟩ := Option.isSome_iff_exists.1 hmark
  refine ⟨fun k hpos hk => ?_, ?_⟩
  · obtain ⟨a, r, hcpu, -, hactive⟩ := State.again_cpu hop wide hkind hk
    have hleft : (s.cpu.cx - BitVec.ofNat 16 k).toNat = s.cpu.cx.toNat - k := by bv_omega
    dsimp only
    rw [hcpu]
    exact ⟨hactive hpos, hleft, rfl⟩
  · obtain ⟨a, hcpu⟩ := State.again_cpu_all hop wide hkind hcx
    have hcount : BitVec.ofNat 16 s.cpu.cx.toNat = s.cpu.cx := by rw [BitVec.ofNat_toNat, BitVec.setWidth_eq]
    have hindex : ∀ (p : Prop) [Decidable p] (v m : Word),
        v + s.cpu.cx * (if p then 0 else m) = if p then v else v + s.cpu.cx * m := fun p _ v m => by
      split
      · rw [mul_zero, add_zero]
      · rfl
    dsimp only
    rw [hcpu, Cpu.afterElements, hcount]
    exact ⟨rfl, rfl, BitVec.sub_self _, rfl, hindex _ _ _, hindex _ _ _, rfl⟩

/-! ## Filling memory (R274, R276; 20_memory.md R96) -/

/-- A store of one byte, by whatever answers its address, leaves the block's memory as the store to that memory would. -/
theorem State.peek_performs_memW (s : State) (a b : Addr) (v : Byte) :
    (s.performs [.memW a v]).peek b = (s.poke a v).peek b := by
  rw [State.performs_cons, State.performs_nil, State.perform_memW, State.peek_log]
  cases h : s.externalAt a with
  | false => rw [s.physWrite_internal a v h]
  | true =>
    rw [s.physWrite_external h, s.poke_rom a v ((s.externalAt_iff a).1 h).1]
    rfl

/-- A byte has one backing, by whichever of its addresses. -/
theorem backing_congr (r : Nat) {a b : Addr} (h : sameByte a b) : backing r a = backing r b := by
  have hkey : cellKey a = cellKey b := h
  rw [← backing_cellKey, hkey, backing_cellKey]

/-- `t` is `s` but for a byte stored to the first `k` of some places, where memory can be written. -/
structure State.Filled (s t : State) (place : Nat → Addr) (v : Byte) (k : Nat) : Prop where
  params : t.params = s.params
  stored : ∀ j, j < k → backing s.params.ramSize (place j) ≠ .rom → t.peek (place j) = v
  kept : ∀ a, (∀ j, j < k → ¬sameByte a (place j)) → t.peek a = s.peek a

/-- One more store. -/
theorem State.Filled.succ {s t u : State} {place : Nat → Addr} {v : Byte} {k : Nat} (h : s.Filled t place v k)
    (hparams : u.params = t.params) (hpeek : ∀ a, u.peek a = (t.poke (place k) v).peek a) :
    s.Filled u place v (k + 1) where
  params := hparams.trans h.params
  stored j hj hback := by
    rw [hpeek]
    by_cases hsame : sameByte (place j) (place k)
    · rw [backing_congr _ hsame, ← h.params] at hback
      exact t.peek_poke_same _ _ _ hsame hback
    · have hne : j ≠ k := fun e => hsame (e ▸ rfl)
      rw [t.peek_poke_other _ _ _ hsame]
      exact h.stored j (by omega) hback
  kept a ha := by
    rw [hpeek, t.peek_poke_other _ _ _ (ha k (Nat.lt_succ_self k))]
    exact h.kept a fun j hj => ha j (Nat.lt_succ_of_lt hj)

/-- The place of an element of a repeated STOSB. -/
def Cpu.fillPlace (c : Cpu) (j : Nat) : Addr := phys c.es (c.di + BitVec.ofNat 16 j * c.stride false)

/-- Beside the CPU a repeated element leaves the state its accesses left. -/
theorem exec_stringOf_marked_accesses (op : StringOp) (wide : Bool) {s : State} {kind : RepKind}
    (h : s.cpu.repMark = some kind) (hcx : s.cpu.cx ≠ 0) :
    ∃ c, exec (stringOf op wide) s = .next { s.performs (s.element op wide).1 with cpu := c } := by
  rw [exec_stringOf_marked op wide h hcx]
  split
  · exact ⟨_, rfl⟩
  · exact ⟨_, rfl⟩

theorem State.element_stosb (s : State) :
    (s.element .stos false).1 = [.memW (phys s.cpu.es s.cpu.di) (s.cpu.r8 .al)] := rfl

/-- Each element of a repeated STOSB stores AL to its own place. -/
theorem State.again_stosb_succ {s : State} {kind : RepKind} (h : s.cpu.repMark = some kind) {k : Nat}
    (hk : k < s.cpu.cx.toNat) :
    ∃ c, s.again .stosb (k + 1) =
      { (s.again .stosb k).performs [.memW (s.cpu.fillPlace k) (s.cpu.r8 .al)] with cpu := c } := by
  have hop : StringOp.stos = .movs ∨ StringOp.stos = .lods ∨ StringOp.stos = .stos := .inr (.inr rfl)
  obtain ⟨a, r, hcpu, ha, -⟩ := State.again_cpu hop false h hk
  obtain ⟨hmark, hleft⟩ := State.again_repMark_cx hop false h hk
  obtain rfl := ha nofun
  obtain ⟨c, hexec⟩ := exec_stringOf_marked_accesses .stos false hmark (by rw [hleft]; bv_omega)
  rw [State.element_stosb, hcpu] at hexec
  exact ⟨c, State.again_succ_eq hexec⟩

theorem State.filled_again_stosb {s : State} {kind : RepKind} (h : s.cpu.repMark = some kind) {k : Nat}
    (hk : k ≤ s.cpu.cx.toNat) : s.Filled (s.again .stosb k) s.cpu.fillPlace (s.cpu.r8 .al) k := by
  induction k with
  | zero => exact ⟨rfl, nofun, fun _ _ => rfl⟩
  | succ k ih =>
    obtain ⟨c, hnext⟩ := State.again_stosb_succ h hk
    rw [hnext]
    refine (ih (Nat.le_of_succ_le hk)).succ ?_ fun a => State.peek_performs_memW ..
    exact ((s.again .stosb k).memoryFrame_performs (by simp [BusReq.isMemory])).params

/-- Settles O35: by the stores of the elements in order. -/
theorem repeatFills : Obligations.RepeatFills := by
  intro s kind h _
  have hfilled := State.filled_again_stosb h (Nat.le_refl _)
  exact ⟨hfilled.stored, hfilled.kept⟩

end Sys2Proof.Machine
end

section
/-!
Interrupt recognition at a sampling point, and the entries (60_exceptions.md R436 to R446; 43_string.md R276;
45_processor_control.md R342).
-/
namespace Sys2Proof.Machine

/-! ## What is recognised (R440, R445, R446) -/

theorem State.waitPasses_iff (s : State) : s.waitPasses = true ↔ s.cpu.waiting = true ∧ s.lines.test = true := by
  simp [State.waitPasses]

/-- The latch holds an edge from before, or the line shows one now (60_exceptions.md R440). -/
theorem Nmi.latch_sample_iff (n : Nmi) (line : Bool) :
    (n.sample line).latch = true ↔ n.latch = true ∨ line = true ∧ n.prev = false := by
  simp [Nmi.sample]

theorem State.request_iff (s : State) :
    (s.lines.intr && s.cpu.flags.ifl && decide (s.cpu.inhibit ≠ .maskable)) = true ↔
      s.lines.intr = true ∧ s.cpu.flags.ifl = true ∧ s.cpu.inhibit ≠ .maskable := by
  simp [and_assoc]

/-- What is recognised, in the words of the rule. -/
theorem State.choose_eq (s : State) :
    s.choose =
      if s.cpu.waiting = true ∧ s.lines.test = true then none
      else if s.cpu.stepPending = true then some .step
      else if s.cpu.inhibit = .all then none
      else if s.nmi.latch = true ∨ s.lines.nmi = true ∧ s.nmi.prev = false then some .nmi
      else if s.lines.intr = true ∧ s.cpu.flags.ifl = true ∧ s.cpu.inhibit ≠ .maskable then some .maskable
      else if s.cpu.tfAtStart = true then some .step
      else none := by
  simp only [State.choose, s.waitPasses_iff, Nmi.latch_sample_iff, s.request_iff]

theorem step_recognised {s : State} {k : EntryKind} (hidle : s.eu.prog = .idle) (htick : s.host.byTick = false)
    (hmid : s.cpu.midUnit = false) (h : s.choose = some k) : step s = s.clearOut.enterStep k := by
  have hbusy : s.clearOut.busy = false := State.busy_of_idle hidle
  simp [step, hbusy, htick, hmid, h]

/-! ## The entries (R436) -/

/-- The two acknowledge cycles give the vector of a maskable entry. -/
theorem run_entryProg_maskable (ip : Word) (c : Cpu) (t : State) :
    let u := (t.perform .inta).2
    (entryProg .maskable ip c).run t = ((u.perform .inta).2).entered (u.perform .inta).1 ip c :=
  run_enter ..

theorem State.enterStep_eq (t : State) (k : EntryKind) :
    t.enterStep k = (t.beginEntry k).afterTicks (t.latency k) fun v =>
      let p := entryProg k t.cpu.returnIp v.cpu
      let last := fun u : State => u.finish (stepTicks v u 0) true
      if v.host.gaps = [] then last (p.run v) else p.runGaps (taskLocks false (.entry k t.cpu.returnIp)) v fun _ => last := by
  simp only [State.enterStep, List.isEmpty_iff]

/-- Settles O50: what is recognised, clause by clause, and the entry it leads to. -/
theorem recognition : Obligations.Recognition := by
  constructor
  · intro s hidle htick hmid request enters passes edge
    have henters : ∀ k, s.choose = some k → enters k := fun k => step_recognised hidle htick hmid
    have hchoose := s.choose_eq
    refine ⟨fun hpass => ?_, fun hpass hpending => ?_, fun hpass hpending => ?_⟩
    · have hnone : s.choose = none := by rw [hchoose, if_pos hpass]
      refine ⟨hnone, fun hhalt hrep => ?_⟩
      rw [step_unrecognised hidle htick hmid hnone]
      exact State.plainStep_of_waiting (s := s.clearOut.goOn) hhalt hrep hpass.1
    · exact henters .step (by rw [hchoose, if_neg hpass, if_pos hpending])
    · rw [if_neg hpass, if_neg (by simp [hpending])] at hchoose
      refine ⟨fun hall => ?_, fun hall hedge => ?_, fun hall hedge hrequest => ?_, fun hall hedge hrequest htf => ?_,
        fun hall hedge hrequest htf => ?_⟩
      · rw [hchoose, if_pos hall]
      · exact henters .nmi (by rw [hchoose, if_neg hall, if_pos hedge])
      · exact henters .maskable (by rw [hchoose, if_neg hall, if_neg hedge, if_pos hrequest])
      · exact henters .step (by rw [hchoose, if_neg hall, if_neg hedge, if_neg hrequest, if_pos htf])
      · rw [hchoose, if_neg hall, if_neg hedge, if_neg hrequest, if_neg (by simp [htf])]
  · intro t k saved b
    exact ⟨rfl, rfl, rfl, t.enterStep_eq k, run_enter .., run_enter .., run_entryProg_maskable ..⟩

end Sys2Proof.Machine
end

section
/-!
The control transfer instructions, and what their conditions mean after a comparison (44_control_transfer.md R289 to R318;
41_arithmetic.md R204).
-/
namespace Sys2Proof.Machine

/-! ## Conditional transfers (R300, R315 to R318) -/

/-- The target of a short transfer, wrapped at once or after the displacement is extended. -/
theorem add_sext_eq_ofInt (ip : Word) (disp : Byte) : ip + sext disp = BitVec.ofInt 16 (ip.toNat + disp.toInt) := by
  rw [BitVec.ofInt_add, ofInt_toNat]
  rfl

/-- An instruction that is a conditional short transfer, from the condition in the words of its rule. -/
theorem exec_of_jumpIf {i : Instr} {s : State} {taken : Bool} {disp : Byte} {c : Cpu} {p : Prop}
    (hprog : progOf i s.cpu = jumpIf taken disp c) (htaken : taken = true ↔ p) :
    (p → exec i s = .next (s.jumps [] { c with ip := BitVec.ofInt 16 (c.ip.toNat + disp.toInt) })) ∧
    (¬p → exec i s = .next (s.ends [] c)) := by
  refine ⟨fun hp => exec_of_run ?_, fun hp => exec_of_run ?_⟩
  · rw [hprog, jumpIf, if_pos (htaken.2 hp), add_sext_eq_ofInt]
    rfl
  · rw [hprog, jumpIf, if_neg (mt htaken.1 hp)]
    rfl

/-- After CX is counted down it is not 0 unless it was 1. -/
theorem countsOn_iff (cx : Word) (go : Bool) : (decide (cx - 1 ≠ 0) && go) = true ↔ cx ≠ 1 ∧ go = true := by
  rw [Bool.and_eq_true, decide_eq_true_iff, sub_ne_zero]

/-- Settles O37: each is a short transfer on a condition, the LOOP family after CX is counted down. -/
theorem conditionalJumps : Obligations.ConditionalJumps := by
  unfold Obligations.ConditionalJumps
  intro number
  have hnumber : ∀ cc, number cc = BitVec.ofNat 8 cc.toNat := fun cc => by cases cc <;> rfl
  refine ⟨fun cc disp rest => ⟨?_, ?_, decode_reads_encode (.loop disp) rfl rest, decode_reads_encode (.loope disp) rfl rest,
    decode_reads_encode (.loopne disp) rfl rest, decode_reads_encode (.jcxz disp) rfl rest⟩, ?_⟩
  · rw [hnumber]
    exact decode_reads_encode (.jcc cc disp) rfl rest
  · rw [hnumber]
    exact decode_reads_encode (.jcc60 cc disp) rfl rest
  · intro s disp c f cond target counted decides
    have hcond : ∀ cc, condHolds s.cpu.flags cc = true ↔ cond cc := fun cc => by
      cases cc <;> simp [cond, f, c, condHolds]
    have hloop := (countsOn_iff c.cx true).trans (and_iff_left rfl)
    have hloopne := (countsOn_iff c.cx (!f.zf)).trans (and_congr_right' Bool.not_eq_eq_eq_not)
    exact ⟨fun cc => ⟨exec_of_jumpIf rfl (hcond cc), exec_of_jumpIf rfl (hcond cc)⟩, exec_of_jumpIf rfl hloop,
      exec_of_jumpIf rfl (countsOn_iff c.cx f.zf), exec_of_jumpIf rfl hloopne, exec_of_jumpIf rfl decide_eq_true_iff⟩

/-! ## Conditions after a comparison (R300; 41_arithmetic.md R204) -/

/-- A signed comparison: the sign of the difference, corrected where the subtraction overflows. -/
theorem msb_sub_ne_ssubOverflow_iff {n : Nat} (a b : BitVec n) :
    (a - b).msb ≠ a.ssubOverflow b ↔ a.toInt < b.toInt := by
  cases hover : a.ssubOverflow b with
  | false =>
    rw [BitVec.msb_eq_toInt, BitVec.toInt_sub_of_not_ssubOverflow (by simp [hover]), Bool.ne_false_iff, decide_eq_true_iff]
    omega
  | true =>
    rw [BitVec.ssubOverflow_eq, BitVec.msb_eq_toInt (x := a), BitVec.msb_eq_toInt (x := b)] at hover
    cases hsign : (a - b).msb <;> simp [hsign] at hover ⊢ <;> omega

theorem Flags.sub_zf_iff {n : Nat} (f : Flags) (a b : BitVec n) : (f.sub a b false).zf = true ↔ a = b := by
  have hzf : (f.sub a b false).zf = decide (subWith a b false = 0) := rfl
  rw [hzf, subWith_false, decide_eq_true_iff, sub_eq_zero]

theorem Flags.sub_cf_iff {n : Nat} (f : Flags) (a b : BitVec n) : (f.sub a b false).cf = true ↔ a.toNat < b.toNat :=
  decide_eq_true_iff

theorem Flags.sub_sf {n : Nat} (f : Flags) (a b : BitVec n) : (f.sub a b false).sf = (a - b).msb := by
  rw [← subWith_false]
  rfl

theorem Flags.sub_ovf {n : Nat} (f : Flags) (a b : BitVec n) : (f.sub a b false).ovf = a.ssubOverflow b := by
  have hovf : (f.sub a b false).ovf = decide (a.msb ≠ b.msb ∧ (subWith a b false).msb ≠ a.msb) := rfl
  rw [hovf, subWith_false, BitVec.ssubOverflow_eq]
  cases a.msb <;> cases b.msb <;> cases (a - b).msb <;> rfl

theorem Flags.sub_sf_ne_ovf_iff {n : Nat} (f : Flags) (a b : BitVec n) :
    (f.sub a b false).sf ≠ (f.sub a b false).ovf ↔ a.toInt < b.toInt := by
  rw [Flags.sub_sf, Flags.sub_ovf, msb_sub_ne_ssubOverflow_iff]

/-- Settles O38: ZF says that the operands are equal, CF and SF with OF that the first is the lesser. -/
theorem comparedConditions : Obligations.ComparedConditions := by
  intro f a b holds
  have hequal := f.sub_zf_iff a b
  have hbelow := f.sub_cf_iff a b
  have hless := f.sub_sf_ne_ovf_iff a b
  have hdiffers : (f.sub a b false).zf = false ↔ a ≠ b := by rw [Ne, ← hequal, Bool.not_eq_true]
  have hnotBelow : (f.sub a b false).cf = false ↔ b.toNat ≤ a.toNat := by rw [← not_lt, ← hbelow, Bool.not_eq_true]
  have hnotLess : (f.sub a b false).sf = (f.sub a b false).ovf ↔ b.toInt ≤ a.toInt := by rw [← not_lt, ← hless, not_ne_iff]
  have hnat : a = b ↔ a.toNat = b.toNat := BitVec.toNat_inj.symm
  have hint : a = b ↔ a.toInt = b.toInt := BitVec.toInt_inj.symm
  simp only [holds, condHolds, Bool.or_eq_true, Bool.and_eq_true, Bool.not_eq_true', bne_iff_ne, beq_iff_eq, hequal, hdiffers,
    hbelow, hnotBelow, hless, hnotLess, true_and, ne_eq]
  -- the conditions of two flags: BE and A, LE and G
  refine ⟨?_, ?_, ?_, ?_⟩
  · rw [hnat]; omega
  · rw [hnat]; omega
  · rw [hint]; omega
  · rw [hint]; omega

/-! ## Jumps (R290 to R294) -/

theorem State.jumps_append (s : State) (rs ts : List BusReq) (c : Cpu) : (s.performs rs).jumps ts c = s.jumps (rs ++ ts) c := by
  rw [State.jumps, State.jumps, State.performs_append]

/-- A far pointer is read, the offset before the segment. -/
theorem run_readPointer (s : State) (m : Mem) (c : Cpu) (k : (off seg : Word) → Prog) :
    (readPointer m c k).run s =
      (k (s.word (c.memSeg m) (c.offset m)) (s.word2 (c.memSeg m) (c.offset m))).run
        (s.performs (wordReads (c.memSeg m) (c.offset m) ++ wordReads (c.memSeg m) (c.offset m + 2))) := rfl

theorem run_progJmpJb (s : State) (disp : Byte) (c : Cpu) :
    (progJmpJb disp c).run s = s.jumps [] { c with ip := BitVec.ofInt 16 (c.ip.toNat + disp.toInt) } := by
  rw [progJmpJb, add_sext_eq_ofInt]
  rfl

theorem run_progJmpEv (s : State) (rm : RM16) :
    (progJmpEv rm s.cpu).run s = s.jumps (s.cpu.reads16 rm) { s.cpu with ip := s.operand16 rm } :=
  run_load16 s rm _

/-- Settles O36: a near jump loads IP from its operand or adds to it, a far one loads CS too. -/
theorem jumps : Obligations.Jumps :=
  ⟨fun _ _ _ _ _ => ⟨rfl, rfl, rfl⟩, fun s =>
    ⟨fun disp => exec_of_run (run_progJmpJb s disp s.cpu), fun _ => exec_of_run rfl,
      fun rm => exec_of_run (run_progJmpEv s rm), fun _ _ => exec_of_run rfl,
      fun m => exec_of_run (run_readPointer s m s.cpu fun o v => jumpFar v o s.cpu)⟩⟩

/-! ## Calls (R303 to R306) -/

/-- A near call pushes the return offset and goes to its target. -/
theorem run_callNear (s : State) (target : Word) (c : Cpu) :
    (push16 c.ip c fun d => jumpTo target d).run s =
      s.jumps (wordWrites c.ss (c.sp - 2) c.ip) { c with sp := c.sp - 2, ip := target } :=
  run_push16 c.ip c (jumpTo target) s

/-- A far call pushes CS, then the return offset. -/
theorem run_callFar (s : State) (seg off : Word) (c : Cpu) :
    (callFar seg off c).run s =
      s.jumps (wordWrites c.ss (c.sp - 2) c.cs ++ wordWrites c.ss (c.sp - 4) c.ip)
        { c with sp := c.sp - 4, ip := off, cs := seg } := by
  have hsp : c.sp - 2 - 2 = c.sp - 4 := sub_sub c.sp 2 2
  rw [callFar, run_push16, run_push16, hsp, ← State.performs_append]
  rfl

theorem run_progCallEv (s : State) (rm : RM16) :
    (progCallEv rm s.cpu).run s =
      s.jumps (s.cpu.reads16 rm ++ wordWrites s.cpu.ss (s.cpu.sp - 2) s.cpu.ip)
        { s.cpu with sp := s.cpu.sp - 2, ip := s.operand16 rm } := by
  rw [progCallEv, run_load16, run_callNear, State.jumps_append]

theorem run_progCallMp (s : State) (m : Mem) (c : Cpu) :
    (progCallMp m c).run s =
      s.jumps (wordReads (c.memSeg m) (c.offset m) ++ wordReads (c.memSeg m) (c.offset m + 2) ++
          (wordWrites c.ss (c.sp - 2) c.cs ++ wordWrites c.ss (c.sp - 4) c.ip))
        { c with sp := c.sp - 4, ip := s.word (c.memSeg m) (c.offset m), cs := s.word2 (c.memSeg m) (c.offset m) } := by
  rw [progCallMp, run_readPointer, run_callFar, State.jumps_append]

/-- Settles O39: an indirect target is read, then the call is that of a direct one. -/
theorem calls : Obligations.Calls :=
  ⟨fun _ _ _ _ _ => ⟨rfl, rfl⟩, fun s =>
    ⟨fun disp => exec_of_run (run_callNear s (s.cpu.ip + disp) s.cpu), fun rm => exec_of_run (run_progCallEv s rm),
      fun off seg => exec_of_run (run_callFar s seg off s.cpu), fun m => exec_of_run (run_progCallMp s m s.cpu)⟩⟩

/-! ## Returns (R307 to R310) -/

theorem run_returnNear (s : State) (release : Word) (c : Cpu) :
    (returnNear release c).run s =
      s.jumps (wordReads c.ss c.sp) { c with sp := c.sp + 2 + release, ip := s.word c.ss c.sp } := rfl

theorem run_returnFar (s : State) (release : Word) (c : Cpu) :
    (returnFar release c).run s =
      s.jumps (wordReads c.ss c.sp ++ wordReads c.ss (c.sp + 2))
        { c with sp := c.sp + 4 + release, ip := s.word c.ss c.sp, cs := s.word2 c.ss c.sp } := by
  have hsp : c.sp + 2 + 2 = c.sp + 4 := add_assoc c.sp 2 2
  rw [← hsp]
  rfl

/-- Settles O40: each form is a near or a far return that releases some bytes, or none. -/
theorem returns : Obligations.Returns :=
  ⟨fun _ _ _ => ⟨rfl, rfl, rfl, rfl, rfl, rfl, rfl, rfl⟩, fun s =>
    have near := fun imm => run_returnNear s imm s.cpu
    have far := fun imm => run_returnFar s imm s.cpu
    ⟨exec_of_run (near 0), exec_of_run (near 0), exec_of_run (far 0), exec_of_run (far 0),
      fun imm => ⟨exec_of_run (near imm), exec_of_run (near imm), exec_of_run (far imm), exec_of_run (far imm)⟩⟩⟩

/-! ## Interrupts (R311 to R314; 60_exceptions.md R436) -/

/-- INTO is an entry if OF is set. -/
theorem run_progInto (s : State) (c : Cpu) :
    (progInto c).run s = if c.flags.ovf = true then s.entered 4 c.ip c else s.ends [] c := by
  rw [← run_enter, progInto, apply_ite (Prog.run · s)]
  rfl

/-- The return from an entry pops IP, CS and the flags. -/
theorem run_leave (s : State) (c : Cpu) :
    (leave c).run s =
      s.jumps (wordReads c.ss c.sp ++ wordReads c.ss (c.sp + 2) ++ wordReads c.ss (c.sp + 4))
        { c with
          sp := c.sp + 6, ip := s.word c.ss c.sp, cs := s.word2 c.ss c.sp
          flags := Flags.ofImage (s.word3 c.ss c.sp) } := by
  have hsecond : c.sp + 2 + 2 = c.sp + 4 := add_assoc c.sp 2 2
  have hthird : c.sp + 4 + 2 = c.sp + 6 := add_assoc c.sp 4 2
  rw [← hthird, ← hsecond]
  rfl

/-- Settles O41: each INT is an entry, INTO one on a condition, and IRET the return from one. -/
theorem interruptInstructions : Obligations.InterruptInstructions := by
  refine ⟨fun x rest => ⟨decode_reads_encode (.intIb x) rfl rest, decode_reads_encode .int3 rfl rest,
    decode_reads_encode .into rfl rest, decode_reads_encode .iret rfl rest⟩, fun s =>
    ⟨fun n => exec_of_run (run_enter n s.cpu.ip s.cpu s), exec_of_run (run_enter 3 s.cpu.ip s.cpu s),
      fun hset => exec_of_run ((run_progInto s s.cpu).trans (if_pos hset)),
      fun hclear => exec_of_run ((run_progInto s s.cpu).trans (if_neg ?_)), exec_of_run (run_leave s s.cpu)⟩⟩
  exact ne_true_of_eq_false hclear

end Sys2Proof.Machine
end

section
/-!
Flag control and processor control (45_processor_control.md R330 to R332, R334 to R337, R340 to R343, R346).
-/
namespace Sys2Proof.Machine

/-! ## Flag control (R330 to R332, R334 to R337) -/

/-- STI with IF set changes nothing (R337). -/
theorem progSti_of_set {c : Cpu} (hset : c.flags.ifl = true) : progSti c = .retire c := by
  rw [progSti, if_pos hset, ← hset]

/-- STI that sets IF inhibits maskable interrupts (R337). -/
theorem progSti_of_clear {c : Cpu} (hclear : c.flags.ifl = false) :
    progSti c = .retire { c with flags := { c.flags with ifl := true }, inhibit := .maskable } := by
  rw [progSti, if_neg (ne_true_of_eq_false hclear)]

/-- Settles O43: each program is one change of the flags; that of STI depends on IF. -/
theorem flagControl : Obligations.FlagControl :=
  ⟨fun rest => ⟨decode_reads_encode .clc rfl rest, decode_reads_encode .stc rfl rest, decode_reads_encode .cmc rfl rest,
      decode_reads_encode .cld rfl rest, decode_reads_encode .std rfl rest, decode_reads_encode .cli rfl rest,
      decode_reads_encode .sti rfl rest⟩,
    fun s => ⟨exec_of_run rfl, exec_of_run rfl, exec_of_run rfl, exec_of_run rfl, exec_of_run rfl, exec_of_run rfl,
      fun hset => exec_of_run (congrArg (Prog.run · s) (progSti_of_set hset)),
      fun hclear => exec_of_run (congrArg (Prog.run · s) (progSti_of_clear hclear))⟩⟩

/-! ## Processor control (R340 to R343, R346) -/

/-- WAIT looks at TEST once, and completes or stays in progress (R342). -/
theorem run_progWait (s : State) (c : Cpu) :
    (progWait c).run s =
      if s.lines.test = true then s.ends [] { c with waiting := false } else { s with cpu := { c with waiting := true } } := by
  rw [progWait, Prog.run_test, apply_ite (Prog.run · s)]
  rfl

/-- ESC reads a memory operand, and nothing for a register (R343). -/
theorem run_progEsc (s : State) (op reg : Oct) (rm : RM16) (c : Cpu) :
    (progEsc op reg rm c).run s = s.ends (c.reads16 rm) c := by
  cases rm with
  | reg r => rfl
  | mem m => exact run_readWord (c.memSeg m) (c.offset m) (fun _ => .retire c) s

/-- Settles O44: WAIT by the state of TEST, ESC by its operand; each of the others is one change of the CPU. -/
theorem processorControl : Obligations.ProcessorControl :=
  ⟨fun rest => ⟨decode_reads_encode .nop rfl rest, decode_reads_encode .hlt rfl rest, decode_reads_encode .wait rfl rest,
      decode_reads_encode .salc rfl rest⟩,
    fun s => ⟨exec_of_run rfl, exec_of_run rfl,
      fun htrue => exec_of_run ((run_progWait s s.cpu).trans (if_pos htrue)),
      fun hfalse => exec_of_run ((run_progWait s s.cpu).trans (if_neg (ne_true_of_eq_false hfalse))),
      fun op reg rm => exec_of_run (run_progEsc s op reg rm s.cpu), exec_of_run rfl⟩⟩

end Sys2Proof.Machine
end

section
/-!
Ticks in which the execution unit does nothing: what each phase of such a tick keeps of the CPU, of TICKS and of the host's
inputs, and so what a number of them does (50_pipeline_bus_timing.md R371; 10_state.md R26).
-/
namespace Sys2Proof.Machine

/-- `n` ticks lie between two states with one CPU: TICKS has grown by `n`, and `n` inputs of the host are spent. -/
structure TicksPassed (n : Nat) (s t : State) : Prop where
  cpu : t.cpu = s.cpu
  ticks : t.biu.ticks = s.biu.ticks + n
  inputs : t.host.inputs = s.host.inputs.drop n

theorem TicksPassed.refl (s : State) : TicksPassed 0 s s := ⟨rfl, rfl, rfl⟩

theorem TicksPassed.trans {s t u : State} {n m : Nat} (h : TicksPassed n s t) (k : TicksPassed m t u) :
    TicksPassed (n + m) s u where
  cpu := k.cpu.trans h.cpu
  ticks := by rw [k.ticks, h.ticks, Nat.add_assoc]
  inputs := by rw [k.inputs, h.inputs, List.drop_drop]

/-! ## No RESET comes -/

/-- None of the inputs to come brings a RESET. -/
def State.NoReset (s : State) : Prop := ∀ x ∈ s.host.inputs, x.reset = false

theorem State.NoReset.resetDue {s : State} (h : s.NoReset) : s.resetDue = false := by
  unfold State.resetDue
  cases hinput : s.input with
  | none => rfl
  | some i => exact h i (List.mem_of_mem_head? hinput)

theorem TicksPassed.noReset {s t : State} {n : Nat} (h : TicksPassed n s t) (hs : s.NoReset) : t.NoReset := fun x hx =>
  hs x (List.mem_of_mem_drop (h.inputs ▸ hx))

/-! ## The phases of a tick -/

theorem DevRel.noTick {s t : State} (h : DevRel s t) : TicksPassed 0 s t := ⟨h.cpu, congrArg Biu.ticks h.biu, h.inputs⟩

theorem KeepsAll.noTick {s t : State} (h : KeepsAll s t) : TicksPassed 0 s t :=
  ⟨h.cpu, h.ticks, congrArg HostState.inputs h.host⟩

theorem land_noTick (s : State) (x : BusCycle) : TicksPassed 0 s (s.land x) :=
  (access_rel s x.req).dev.noTick.trans (m := 0) ⟨rfl, rfl, rfl⟩

theorem complete_noTick (s : State) (x : BusCycle) : TicksPassed 0 s (s.complete x) where
  cpu := rfl
  ticks := by
    unfold State.complete
    split
    · split <;> rfl
    · rfl
  inputs := rfl

/-- A bus cycle's access reaches the devices and memory, never the CPU (50_pipeline_bus_timing.md R383, R384). -/
theorem biuPhase_noTick (s : State) : TicksPassed 0 s s.biuPhase := by
  have hwait (x : BusCycle) : TicksPassed 0 s (if x.waitsLeft = 0 then s.land x
      else { s with biu := { s.biu with cur := some { x with waitsLeft := x.waitsLeft - 1 } } }) := by
    split
    · exact land_noTick s x
    · exact ⟨rfl, rfl, rfl⟩
  unfold State.biuPhase
  split
  · exact hwait _
  · exact hwait _
  · exact complete_noTick s _
  · exact .refl s

/-- The DMA controller's step leaves the CPU and its bus in every state, sound or not. -/
theorem dmaTick_devRel (s : State) (hlda : Bool) : DevRel s (s.dmaTick hlda) := by
  have hput (d : Dma) : DevRel s { s with dma := d } := ⟨rfl, rfl, rfl, rfl, rfl, id⟩
  have hprogress (d : Dma) (c : BitVec 2) (dreq : BitVec 4) (hactive : d.active = some c) :
      DevRel s ({ s with dma := d }.dmaProgress c dreq) :=
    (hput d).trans (dmaProgress_dev { s with dma := d } c dreq hactive).1
  unfold State.dmaTick
  dsimp only
  split
  next hactive =>
    split
    · exact hprogress _ _ _ hactive
    · exact hput _
  next =>
    split
    · split
      · exact hprogress _ _ _ rfl
      · exact hput _
    · exact hput _

/-- The devices' steps leave the CPU and its bus in every state, sound or not. -/
theorem deviceTicks_devRel (s : State) (hlda : Bool) : DevRel s (s.deviceTicks hlda) := by
  have hkeeps (t : State) (p : Pit) (q : Pic) (k : Nat) :
      DevRel t { t with pit := p, pic := q, host := { t.host with draws := k } } := ⟨rfl, rfl, rfl, rfl, rfl, id⟩
  have hppi (t : State) : DevRel t { t with ppi := t.ppi.tick } := ⟨rfl, rfl, rfl, rfl, rfl, id⟩
  exact (((hkeeps s _ _ _).trans (dmaTick_devRel _ hlda)).trans (hppi _)).trans (videoTick_dev _).1

theorem keyboard_noTick (s : State) : TicksPassed 0 s s.keyboard := by
  unfold State.keyboard
  split
  · exact .refl s
  · split <;> exact ⟨rfl, rfl, rfl⟩

/-- The last step of a tick without a RESET counts it and spends its input (50_pipeline_bus_timing.md R371). -/
theorem endTick_passed (s : State) (hlda : Bool) : TicksPassed 1 s (s.endTick hlda) :=
  (keyboard_noTick s).trans (m := 1) ⟨rfl, rfl, List.drop_one.symm⟩

/-! ## Whole ticks -/

theorem tickBody_id_passed {s : State} (hs : s.NoReset) : TicksPassed 1 s (s.tickBody id) := by
  have hsampled : TicksPassed 0 s { s.sampleNmi with biu := { s.biu with boundary := false } } := ⟨rfl, rfl, rfl⟩
  have hphases := ((hsampled.trans (biuPhase_noTick _)).trans (nextT_keeps _).noTick).trans
    (deviceTicks_devRel _ (decide (s.biu.t = .th))).noTick
  have hdue := (hphases.noReset hs).resetDue
  unfold State.tickBody
  dsimp only [id]
  rw [if_neg (ne_true_of_eq_false hdue)]
  exact hphases.trans (endTick_passed _ _)

theorem tickWith_eq_next {s t : State} {eu : State → State} (h : s.tickWith eu = .next t) : t = s.tickBody eu := by
  unfold State.tickWith at h
  split at h
  · cases h
  · split at h
    · cases h
    · cases h
      rfl

/-- Ticks that end in a next state have passed in full, and what came after them ended in that state. -/
theorem afterTicks_passed {s t : State} {n : Nat} {k : State → Host.Outcome State Fault Refusal} (hs : s.NoReset)
    (h : s.afterTicks n k = .next t) : ∃ u, TicksPassed n s u ∧ k u = .next t := by
  induction n generalizing s with
  | zero => exact ⟨s, .refl s, h⟩
  | succ n ih =>
    rw [State.afterTicks] at h
    split at h
    next v htick =>
      have hv : TicksPassed 1 s v := tickWith_eq_next htick ▸ tickBody_id_passed hs
      rw [if_neg (ne_true_of_eq_false hs.resetDue)] at h
      obtain ⟨u, hu, hk⟩ := ih (hv.noReset hs) h
      exact ⟨u, Nat.add_comm n 1 ▸ hv.trans hu, hk⟩
    next => cases h
    next => cases h

theorem noteBoundary_noTick (s : State) (b : Bool) : TicksPassed 0 s (s.noteBoundary b) := by
  unfold State.noteBoundary
  split <;> exact ⟨rfl, rfl, rfl⟩

/-- Settles O51, by induction on the number of ticks: each phase of a tick leaves the CPU, and its last step counts it. -/
theorem timePasses : Obligations.TimePasses := by
  intro s t count b hs hpass
  obtain ⟨u, hu, hnote⟩ := afterTicks_passed hs hpass
  cases hnote
  have hall := hu.trans (noteBoundary_noTick u b)
  exact ⟨hall.cpu, hall.ticks⟩

end Sys2Proof.Machine
end

section
/-!
The exceptions: the divide error, and an entry that IRET undoes (60_exceptions.md R436 to R438, R450).
-/
namespace Sys2Proof.Machine

/-! ## The divide error (R437, R438; 41_arithmetic.md R212, R222, R223) -/

theorem divide_eq_none {m n : Nat} {a : BitVec m} {d : BitVec n} (h : d = 0 ∨ 2 ^ n - 1 < a.toNat / d.toNat) :
    divide a d = none :=
  if_pos (h.imp_right Nat.le_of_pred_lt)

theorem divideSigned_eq_none {m n : Nat} {a : BitVec m} {d : BitVec n}
    (h : d = 0 ∨ ¬(-(2 ^ (n - 1) - 1) ≤ a.toInt.tdiv d.toInt ∧ a.toInt.tdiv d.toInt ≤ 2 ^ (n - 1) - 1)) :
    divideSigned a d = none :=
  if_pos (h.imp_right fun hout => by omega)

/-- The divide error is an entry through vector 0 that saves IP and frees the six flags. -/
theorem run_divideError (s : State) (c : Cpu) : (divideError c).run s = s.entered 0 c.ip c.divided :=
  run_enter 0 c.ip c.divided s

/-- A byte division without an answer reads its divisor and takes the divide error. -/
theorem run_divide8_of_none {s : State} {rm : RM8} {f : Byte → Option (Byte × Byte)} (h : f (s.operand8 rm) = none) :
    (byteWidth.load s.cpu (s.cpu.place rm) fun b => finishByteDivide (f b) s.cpu).run s =
      (s.performs (s.cpu.reads8 rm)).entered 0 s.cpu.ip s.cpu.divided := by
  rw [run_load8, h]
  exact run_divideError _ _

/-- A word division without an answer reads its divisor and takes the divide error. -/
theorem run_divide16_of_none {s : State} {rm : RM16} {f : Word → Option (Word × Word)} (h : f (s.operand16 rm) = none) :
    (wordWidth.load s.cpu (s.cpu.place rm) fun b => finishWordDivide (f b) s.cpu).run s =
      (s.performs (s.cpu.reads16 rm)).entered 0 s.cpu.ip s.cpu.divided := by
  rw [run_load16, h]
  exact run_divideError _ _

/-- Settles O19: where the divisor is 0 or the quotient does not fit, the division has no answer; AAM by 0 is the divide error
itself. -/
theorem divideErrors : Obligations.DivideError := fun s =>
  ⟨fun _ h => exec_of_run (run_divide8_of_none (f := divide s.cpu.ax) (divide_eq_none h)),
    fun _ h => exec_of_run (run_divide16_of_none (f := divide s.cpu.dxax) (divide_eq_none h)),
    fun _ h => exec_of_run (run_divide8_of_none (f := divideSigned s.cpu.ax) (divideSigned_eq_none h)),
    fun _ h => exec_of_run (run_divide16_of_none (f := divideSigned s.cpu.dxax) (divideSigned_eq_none h)),
    exec_of_run (run_divideError s s.cpu)⟩

/-! ## Bytes of one segment (20_memory.md R85, R96) -/

theorem cellKey_mod (a : Addr) : cellKey a % 0x4000 = a.toNat % 0x4000 := by
  unfold cellKey
  split <;> omega

/-- Two offsets of a segment that name one byte are congruent modulo the size of video memory. -/
theorem mod_eq_of_sameByte_phys {seg a b : Word} (h : sameByte (phys seg a) (phys seg b)) :
    a.toNat % 0x4000 = b.toNat % 0x4000 := by
  have hkey : cellKey (phys seg a) % 0x4000 = cellKey (phys seg b) % 0x4000 := congrArg (· % 0x4000) h
  rw [cellKey_mod, cellKey_mod, toNat_phys, toNat_phys] at hkey
  omega

/-! ## Words in memory (20_memory.md R86, R87, R94) -/

/-- A word lies at an offset of a segment, in RAM or video memory. -/
structure State.Holds (s : State) (seg off v : Word) : Prop where
  lowBacked : backing s.params.ramSize (phys seg off) ≠ .rom
  highBacked : backing s.params.ramSize (phys seg (off + 1)) ≠ .rom
  low : s.peek (phys seg off) = v.setWidth 8
  high : s.peek (phys seg (off + 1)) = v.extractLsb' 8 8

/-- A word that lies in memory is what is read. -/
theorem State.Holds.word_eq {s : State} {seg off v : Word} (h : s.Holds seg off v) : s.word seg off = v := by
  rw [State.word_eq_peek (s.externalAt_backed _ h.lowBacked) (s.externalAt_backed _ h.highBacked), h.low, h.high,
    extractLsb'_append_setWidth]

/-- A word that is written lies in memory. -/
theorem State.holds_performs_wordWrites {s : State} {seg off : Word} (v : Word)
    (hlow : backing s.params.ramSize (phys seg off) ≠ .rom) (hhigh : backing s.params.ramSize (phys seg (off + 1)) ≠ .rom) :
    (s.performs (wordWrites seg off v)).Holds seg off v := by
  obtain ⟨hpeeklow, hpeekhigh⟩ := State.peek_performs_wordWrites v hlow hhigh
  exact ⟨by simpa using hlow, by simpa using hhigh, hpeeklow, hpeekhigh⟩

/-- Memory accesses leave a word they do not store to. -/
theorem State.Holds.performs {s : State} {seg off v : Word} (h : s.Holds seg off v) {rs : List BusReq}
    (hmem : ∀ r ∈ rs, r.isMemory = true)
    (hother : ∀ r ∈ rs, ∀ b, r.stored = some b → ¬sameByte (phys seg off) b ∧ ¬sameByte (phys seg (off + 1)) b) :
    (s.performs rs).Holds seg off v := by
  have hparams := (s.memoryFrame_performs hmem).params
  constructor
  · rw [hparams]; exact h.lowBacked
  · rw [hparams]; exact h.highBacked
  · rw [s.peek_performs_other rs _ hmem fun r hr b hb => (hother r hr b hb).1, h.low]
  · rw [s.peek_performs_other rs _ hmem fun r hr b hb => (hother r hr b hb).2, h.high]

/-- Reads leave it. -/
theorem State.Holds.performs_reads {s : State} {seg off v : Word} (h : s.Holds seg off v) (as : List Addr) :
    (s.performs (as.map .memR)).Holds seg off v :=
  h.performs (by simp [BusReq.isMemory]) (by simp [BusReq.stored])

/-- A write of a lower word of the segment leaves it. -/
theorem State.Holds.performs_wordWrites {s : State} {seg off v : Word} (h : s.Holds seg off v) (low w : Word)
    (hle : 2 ≤ (off - low).toNat) (hlt : (off - low).toNat < 0x3FFF) :
    (s.performs (wordWrites seg low w)).Holds seg off v := by
  refine h.performs (by simp [wordWrites, BusReq.isMemory]) ?_
  simp only [wordWrites, List.forall_mem_cons, BusReq.stored, Option.some.injEq, forall_eq', List.not_mem_nil,
    false_imp_iff, implies_true, and_true]
  refine ⟨⟨?_, ?_⟩, ?_, ?_⟩ <;>
  · intro hsame
    have hmod := mod_eq_of_sameByte_phys hsame
    bv_omega

/-- The next word is read. -/
theorem State.Holds.word2_eq {s : State} {seg off v : Word} (h : s.Holds seg (off + 2) v) : s.word2 seg off = v :=
  (h.performs_reads [phys seg off, phys seg (off + 1)]).word_eq

/-- The third word is read. -/
theorem State.Holds.word3_eq {s : State} {seg off v : Word} (h : s.Holds seg (off + 2 + 2) v) : s.word3 seg off = v :=
  (h.performs_reads [phys seg off, phys seg (off + 1)]).word2_eq

/-! ## IRET after an entry (R436, R450; 44_control_transfer.md R314) -/

/-- The three words of an entry's frame lie in memory: the image, CS, the saved offset. -/
theorem State.holds_performs_frame {s : State} {c : Cpu} (ip : Word)
    (hback : ∀ k, k < 6 → backing s.params.ramSize (phys c.ss (c.sp - BitVec.ofNat 16 (k + 1))) ≠ .rom) :
    let t := s.performs (c.frame ip)
    t.Holds c.ss (c.sp - 2) c.flags.image ∧ t.Holds c.ss (c.sp - 4) c.cs ∧ t.Holds c.ss (c.sp - 6) ip := by
  have hhigh : ∀ m : Word, c.sp - (m + 1) + 1 = c.sp - m := fun m => by bv_omega
  have himage := State.holds_performs_wordWrites c.flags.image (hback 1 (by decide)) (hhigh 1 ▸ hback 0 (by decide))
  have hcs := State.holds_performs_wordWrites (s := s.performs (wordWrites c.ss (c.sp - 2) c.flags.image)) c.cs
    (by simpa using hback 3 (by decide)) (by simpa using hhigh 3 ▸ hback 2 (by decide))
  have hip := State.holds_performs_wordWrites
    (s := (s.performs (wordWrites c.ss (c.sp - 2) c.flags.image)).performs (wordWrites c.ss (c.sp - 4) c.cs)) ip
    (by simpa using hback 5 (by decide)) (by simpa using hhigh 5 ▸ hback 4 (by decide))
  rw [Cpu.frame, State.performs_append, State.performs_append]
  refine ⟨?_, ?_, hip⟩
  · exact (himage.performs_wordWrites _ _ (by bv_omega) (by bv_omega)).performs_wordWrites _ _ (by bv_omega) (by bv_omega)
  · exact hcs.performs_wordWrites _ _ (by bv_omega) (by bv_omega)

/-- Reads that end with a control transfer leave it. -/
theorem State.Holds.jumps_reads {s : State} {seg off v : Word} (h : s.Holds seg off v) (as : List Addr) (c : Cpu) :
    (s.jumps (as.map .memR) c).Holds seg off v := by
  obtain ⟨hlowBacked, hhighBacked, hlow, hhigh⟩ := h.performs_reads as
  exact ⟨hlowBacked, hhighBacked, hlow, hhigh⟩

/-- The rest of an entry reads its vector. -/
theorem State.Holds.entered {s : State} {seg off v ip : Word} {c : Cpu} (h : (s.performs (c.frame ip)).Holds seg off v)
    (n : Byte) : (s.entered n ip c).Holds seg off v :=
  h.jumps_reads [vectorAddr n 0, vectorAddr n 1, vectorAddr n 2, vectorAddr n 3] _

/-- The return from an entry with three words in memory where the stack begins. -/
theorem run_leave_cpu {s : State} {c : Cpu} {ip cs image : Word} (hip : s.Holds c.ss c.sp ip)
    (hcs : s.Holds c.ss (c.sp + 2) cs) (himage : s.Holds c.ss (c.sp + 2 + 2) image) :
    ((leave c).run s).cpu = { c with sp := c.sp + 6, ip := ip, cs := cs, flags := Flags.ofImage image }.endInstr := by
  rw [run_leave, hip.word_eq, hcs.word2_eq, himage.word3_eq]
  rfl

/-- Settles O42: IRET finds the frame's three words, and moves SP back past them. -/
theorem entryThenReturn : Obligations.EntryThenReturn := by
  intro s n hback
  obtain ⟨himage, hcs, hip⟩ := State.holds_performs_frame s.cpu.ip hback
  have hsecond : s.cpu.sp - 4 = s.cpu.sp - 6 + 2 := by bv_omega
  have hthird : s.cpu.sp - 2 = s.cpu.sp - 6 + 2 + 2 := by bv_omega
  rw [hsecond] at hcs
  rw [hthird] at himage
  have hleft := run_leave_cpu (c := (s.entered n s.cpu.ip s.cpu).cpu) (hip.entered n) (hcs.entered n) (himage.entered n)
  have hsp : (s.entered n s.cpu.ip s.cpu).cpu.sp + 6 = s.cpu.sp := sub_add_cancel _ _
  rw [hsp, Flags.ofImage_image] at hleft
  exact ⟨_, exec_of_run rfl, hleft⟩

end Sys2Proof.Machine
end

section
/-!
The interrupt controller: which line it selects, and what its two acknowledge cycles do (61_pic.md R492, R496, R497).
-/
namespace Sys2Proof.Machine

/-! ## Selection (R492) -/

theorem mem_picLines : ∀ i : BitVec 3, i ∈ picLines := by decide

/-- The rank as a number: the distance from the line after the lowest one. -/
theorem Pic.rank_eq (p : Pic) (i : BitVec 3) : p.rank i = (i.toNat + 15 - p.lowest.toNat) % 8 := by
  unfold Pic.rank
  bv_omega

theorem Pic.requested_iff (p : Pic) (i : BitVec 3) :
    p.requested i = true ↔ p.irr.getLsbD i.toNat = true ∧ p.imrEff.getLsbD i.toNat = false := by
  simp [Pic.requested]

/-- Eligibility with the lines in service quantified, by the mode. -/
theorem Pic.eligible_iff (p : Pic) (i : BitVec 3) :
    p.eligible i = true ↔ p.requested i = true ∧
      if p.smm then ¬p.inService i = true
      else if p.sfnm then ∀ j, p.inService j = true → ¬p.rank j < p.rank i
      else ∀ j, p.inService j = true → ¬p.rank j ≤ p.rank i := by
  unfold Pic.eligible
  rw [Bool.and_eq_true]
  refine and_congr_right fun _ => ?_
  split
  · simp
  · split <;> simp [mem_picLines, Decidable.or_iff_not_imp_left]

/-- In a list whose measures rise, the first element that meets a test is the one of least measure. -/
theorem find?_eq_some_iff_least {α : Type} (f : α → Nat) (test : α → Bool) (i : α) {l : List α}
    (hl : l.Pairwise (f · < f ·)) :
    l.find? test = some i ↔ i ∈ l ∧ test i = true ∧ ∀ j ∈ l, test j = true → f i ≤ f j := by
  induction l with
  | nil => simp
  | cons a l ih =>
    obtain ⟨hfirst, hrest⟩ := List.pairwise_cons.1 hl
    cases ha : test a with
    | false =>
      rw [List.find?_cons_of_neg (by simp [ha]), ih hrest]
      constructor
      · rintro ⟨hi, htest, hleast⟩
        exact ⟨.tail _ hi, htest, List.forall_mem_cons.2 ⟨by simp [ha], hleast⟩⟩
      · rintro ⟨hi, htest, hleast⟩
        obtain rfl | hi := List.mem_cons.1 hi
        · rw [ha] at htest
          cases htest
        · exact ⟨hi, htest, (List.forall_mem_cons.1 hleast).2⟩
    | true =>
      rw [List.find?_cons_of_pos ha, Option.some_inj]
      constructor
      · rintro rfl
        exact ⟨.head _, ha, List.forall_mem_cons.2 ⟨fun _ => le_rfl, fun j hj _ => (hfirst j hj).le⟩⟩
      · rintro ⟨hi, -, hleast⟩
        obtain rfl | hi := List.mem_cons.1 hi
        · rfl
        · exact absurd (hleast a (.head _) ha) (hfirst i hi).not_ge

/-- The lines as the priorities order them rise in rank. -/
theorem Pic.pairwise_rank (p : Pic) :
    (picLines.map fun k => k + p.lowest + 1).Pairwise (p.rank · < p.rank ·) := by
  have hrank (k : BitVec 3) : p.rank (k + p.lowest + 1) = k.toNat := by
    unfold Pic.rank
    bv_omega
  simp only [List.pairwise_map, hrank]
  decide

theorem Pic.mem_byPriority (p : Pic) (i : BitVec 3) : i ∈ picLines.map fun k => k + p.lowest + 1 :=
  List.mem_map.2 ⟨i - p.lowest - 1, mem_picLines _, by bv_omega⟩

/-- The line of highest priority is the one of least rank. -/
theorem Pic.highest_eq_some_iff (p : Pic) (test : BitVec 3 → Bool) (i : BitVec 3) :
    p.highest test = some i ↔ test i = true ∧ ∀ j, test j = true → p.rank i ≤ p.rank j := by
  rw [Pic.highest, find?_eq_some_iff_least p.rank test i p.pairwise_rank]
  simp only [p.mem_byPriority, true_and, true_imp_iff]

theorem Pic.intr_iff (p : Pic) : p.intr = true ↔ ∃ i, p.eligible i = true := by
  simp [Pic.intr, mem_picLines]

/-- Settles O55: the lines are looked at by rising rank, so the first eligible one is that of least rank. -/
theorem picSelection : Obligations.PicSelection := by
  intro p rank served eligible
  have hrank : p.rank = rank := funext p.rank_eq
  have heligible (i : BitVec 3) : p.eligible i = true ↔ eligible i := by
    rw [p.eligible_iff, p.requested_iff, and_assoc, hrank]
    rfl
  refine ⟨fun i => ?_, ?_⟩
  · simp only [Pic.selected, p.highest_eq_some_iff, heligible, hrank]
  · simp only [p.intr_iff, heligible]

/-! ## The acknowledge cycles (R496, R497) -/

theorem Pic.ackFirst_of_selected {p : Pic} {i : BitVec 3} (h : p.selected = some i) :
    p.ackFirst = { p.serve i with intaPhase := true, intaLine := some i } := by
  simp only [Pic.ackFirst, h]

theorem Pic.ackFirst_of_none {p : Pic} (h : p.selected = none) :
    p.ackFirst = { p with intaPhase := true, intaLine := none } := by
  simp only [Pic.ackFirst, h]

theorem Pic.ackFirst_intaPhase (p : Pic) : p.ackFirst.intaPhase = true := by
  unfold Pic.ackFirst
  split <;> rfl

theorem Pic.ackSecond_intaPhase (p : Pic) : p.ackSecond.intaPhase = false := by
  unfold Pic.ackSecond
  split
  · split <;> rfl
  · rfl

/-- The second cycle ends the service of the line in hand exactly with automatic end of interrupt. -/
theorem Pic.ackSecond_of_intaLine {p : Pic} {i : BitVec 3} (h : p.intaLine = some i) :
    p.ackSecond.irr = p.irr ∧ p.ackSecond.isr = if p.aeoi then putBit p.isr i.toNat false else p.isr := by
  simp only [Pic.ackSecond, h]
  split <;> exact ⟨rfl, rfl⟩

theorem State.perform_inta_first {s : State} (h : s.pic.intaPhase = false) :
    (s.perform .inta).2.pic = s.pic.ackFirst := by
  simp [State.perform, State.access, State.intaCycle, h]

theorem State.perform_inta_second {s : State} (h : s.pic.intaPhase = true) :
    (s.perform .inta).1 = s.pic.vector ∧ (s.perform .inta).2.pic = s.pic.ackSecond := by
  simp [State.perform, State.access, State.intaCycle, h]

/-- What both cycles together leave of the bits of a line, the selected one or another. -/
theorem Pic.acknowledged_bits {p : Pic} {i : BitVec 3} (h : p.selected = some i) (j : BitVec 3) :
    p.ackFirst.ackSecond.irr.getLsbD j.toNat = (p.irr.getLsbD j.toNat && decide (j ≠ i)) ∧
    p.ackFirst.ackSecond.isr.getLsbD j.toNat = if j = i then !p.aeoi else p.isr.getLsbD j.toNat := by
  have hline (k : BitVec 3) : k.toNat < 8 := k.isLt
  obtain ⟨hirr, hisr⟩ := Pic.ackSecond_of_intaLine (p := p.ackFirst) (i := i) (by rw [Pic.ackFirst_of_selected h])
  rw [hirr, hisr, Pic.ackFirst_of_selected h]
  by_cases hji : j = i
  · subst hji
    cases haeoi : p.aeoi <;> simp [Pic.serve, haeoi, getLsbD_putBit (hline _) (hline _)]
  · have hne : j.toNat ≠ i.toNat := fun he => hji (BitVec.eq_of_toNat_eq he)
    cases haeoi : p.aeoi <;> simp [Pic.serve, haeoi, getLsbD_putBit (hline _) (hline _), hji, hne]

/-- Settles O56: the first cycle serves the selected line, the second one answers its vector and may end its service. -/
theorem picAcknowledge : Obligations.PicAcknowledge := by
  intro s hphase first second p
  have hfirst : first.pic = s.pic.ackFirst := State.perform_inta_first hphase
  have hstarted : first.pic.intaPhase = true := hfirst ▸ s.pic.ackFirst_intaPhase
  obtain ⟨hvector, hsecond⟩ := State.perform_inta_second hstarted
  rw [hfirst] at hvector hsecond
  have hp : p = s.pic.ackFirst.ackSecond := hsecond
  refine ⟨hstarted, hp ▸ Pic.ackSecond_intaPhase _, fun i hi => ?_, fun hnone => ?_⟩
  · rw [hp]
    exact ⟨hvector.trans (by rw [Pic.ackFirst_of_selected hi]; rfl), Pic.acknowledged_bits hi⟩
  · rw [Pic.ackFirst_of_none hnone] at hvector hp
    rw [hp]
    exact ⟨hvector, rfl, rfl⟩

end Sys2Proof.Machine
end

section
/-!
The interval timer: how a channel counts down in modes 0 and 2 (62_pit.md R530, R531, R533).
-/
namespace Sys2Proof.Machine

/-- The channel while it counts: count and output as given, its load done and its trigger spent. -/
def PitChannel.counting (c : PitChannel) (count : Word) (out : Bool) : PitChannel :=
  { c with ce := count, outv := out, load := false, run := true, trig := false }

theorem PitChannel.after_succ (w : Word) (b : Bool) (k : Nat) (c : PitChannel) :
    c.after w b (k + 1) = (c.after w b k).timerTick true w b := by
  induction k generalizing c with
  | zero => rfl
  | succ k ih => exact ih _

/-! ## The number of a reload value (R530) -/

theorem PitChannel.number_pos (c : PitChannel) : 0 < c.number := by
  unfold PitChannel.number
  split
  · decide
  next h => bv_omega

theorem PitChannel.number_le (c : PitChannel) : c.number ≤ 65536 := by
  unfold PitChannel.number
  split <;> omega

theorem PitChannel.ofNat_number (c : PitChannel) : BitVec.ofNat 16 c.number = c.cr := by
  unfold PitChannel.number
  split
  next h => rw [h]; rfl
  next => simp

theorem PitChannel.number_ne_one {c : PitChannel} (h : c.cr ≠ 1) : c.number ≠ 1 := fun hone =>
  h (by rw [← c.ofNat_number, hone]; rfl)

/-- One less than a positive count. -/
theorem ofNat_sub_one {n k : Nat} (h : k < n) : BitVec.ofNat 16 (n - k) - 1 = BitVec.ofNat 16 (n - (k + 1)) := by
  bv_omega

/-- A count is told from a small number by its low 16 bits. -/
theorem ofNat_eq_iff {m n : Nat} (hm : m < 65536) (hn : n < 65536) :
    BitVec.ofNat 16 m = BitVec.ofNat 16 n ↔ m = n := by
  constructor <;> intro h <;> bv_omega

/-! ## A timer tick (R531, R533) -/

section
variable {c : PitChannel} {w : Word} {b : Bool} (hwild : c.wild = false)
include hwild

theorem PitChannel.timerTick_mode0_load (hmode : c.mode = some .m0) (hload : c.load = true) (hout : c.outv = false) :
    c.timerTick true w b = c.counting c.cr false := by
  simp [PitChannel.timerTick, PitChannel.modeStep, PitChannel.step0, PitChannel.counting, hmode, hwild, hload, hout]

theorem PitChannel.timerTick_mode2_reload (hmode : c.mode = some .m2) (hcr : c.cr ≠ 1) (o : Bool) :
    (c.counting 1 o).timerTick true w b = c.counting c.cr true := by
  simp [PitChannel.timerTick, PitChannel.modeStep, PitChannel.step2, PitChannel.triggered, PitChannel.loadPeriodic,
    PitChannel.counting, hmode, hwild, show ¬c.cr = 1#16 from hcr]

variable (hbcd : c.bcd = false)
include hbcd

theorem PitChannel.timerTick_mode0_counting (hmode : c.mode = some .m0) (x : Word) (o : Bool) :
    (c.counting x o).timerTick true w b = c.counting (x - 1) (if x - 1 = 0 then true else o) := by
  simp [PitChannel.timerTick, PitChannel.modeStep, PitChannel.step0, PitChannel.counting, pitSub, hmode, hwild, hbcd]

theorem PitChannel.timerTick_mode2_counting (hmode : c.mode = some .m2) {x : Word} (hx : x ≠ 1) (o : Bool) :
    (c.counting x o).timerTick true w b = c.counting (x - 1) (if x - 1 = 1 then false else o) := by
  simp [PitChannel.timerTick, PitChannel.modeStep, PitChannel.step2, PitChannel.triggered, PitChannel.counting, pitSub,
    hmode, hwild, hbcd, show ¬x = 1#16 from hx]

/-! ## Some timer ticks (R531, R533) -/

/-- The first timer tick loads the count; each later one takes one off it. -/
theorem PitChannel.after_mode0 (hmode : c.mode = some .m0) (hload : c.load = true) (hout : c.outv = false) {k : Nat}
    (hk : k ≤ c.number) :
    c.after w b (k + 1) = c.counting (BitVec.ofNat 16 (c.number - k)) (decide (k = c.number)) := by
  have hle := c.number_le
  induction k with
  | zero =>
    rw [Nat.sub_zero, c.ofNat_number, decide_eq_false c.number_pos.ne]
    exact timerTick_mode0_load hwild hmode hload hout
  | succ k ih =>
    have hzero : BitVec.ofNat 16 (c.number - (k + 1)) = 0 ↔ k + 1 = c.number := by
      rw [show (0 : Word) = BitVec.ofNat 16 0 from rfl, ofNat_eq_iff (by omega) (by omega)]
      omega
    rw [PitChannel.after_succ, ih (by omega), timerTick_mode0_counting hwild hbcd hmode, ofNat_sub_one hk,
      decide_eq_false (by omega : ¬k = c.number)]
    simp only [hzero, Bool.if_false_right, Bool.and_true]

/-- From its reload value a channel counts down to 1, where its output is low. -/
theorem PitChannel.after_mode2 (hmode : c.mode = some .m2) (hcr : c.cr ≠ 1) {k : Nat} (hk : k < c.number) :
    (c.counting c.cr true).after w b k =
      c.counting (BitVec.ofNat 16 (c.number - k)) (decide (k ≠ c.number - 1)) := by
  have hle := c.number_le
  have hne := PitChannel.number_ne_one hcr
  have hone {m : Nat} (hm : m < 65536) : BitVec.ofNat 16 m = 1 ↔ m = 1 := ofNat_eq_iff hm (n := 1) (by decide)
  induction k with
  | zero =>
    rw [Nat.sub_zero, c.ofNat_number, decide_eq_true (by omega : 0 ≠ c.number - 1)]
    rfl
  | succ k ih =>
    have hlow : BitVec.ofNat 16 (c.number - (k + 1)) = 1 ↔ k + 1 = c.number - 1 := by
      rw [hone (by omega)]
      omega
    have hhigh : BitVec.ofNat 16 (c.number - k) ≠ 1 := fun h => by bv_omega
    rw [PitChannel.after_succ, ih (by omega), timerTick_mode2_counting hwild hbcd hmode hhigh,
      ofNat_sub_one (by omega), decide_eq_true (by omega : k ≠ c.number - 1)]
    simp only [hlow, Bool.if_false_left, Bool.and_true, ne_eq, decide_not]

/-- After its reload value's number of timer ticks the channel is as it was. -/
theorem PitChannel.after_number_mode2 (hmode : c.mode = some .m2) (hcr : c.cr ≠ 1) :
    (c.counting c.cr true).after w b c.number = c.counting c.cr true := by
  have hpos := c.number_pos
  obtain ⟨m, hm⟩ : ∃ m, c.number = m + 1 := ⟨c.number - 1, by omega⟩
  rw [hm, PitChannel.after_succ, after_mode2 hwild hbcd hmode hcr (by omega), hm, Nat.add_sub_cancel_left]
  exact timerTick_mode2_reload hwild hmode hcr _
end

/-- Settles O57: by induction on the timer ticks, a running channel differs from its start in count and output only. -/
theorem timerCounts : Obligations.TimerCounts := by
  intro c w b hbcd hwild
  refine ⟨fun hmode htrig hload hrun hout hce hcr => ?_, fun hmode hload hout k hk => ?_⟩
  · have hstart : c.counting c.cr true = c := by
      cases c
      simp_all [PitChannel.counting]
    have hafter := fun k => PitChannel.after_mode2 (w := w) (b := b) hwild hbcd hmode hcr (k := k)
    have hperiod := PitChannel.after_number_mode2 (w := w) (b := b) hwild hbcd hmode hcr
    rw [hstart] at hafter hperiod
    refine ⟨fun k hk => ?_, hperiod⟩
    dsimp only
    rw [hafter k hk]
    exact ⟨rfl, rfl⟩
  · dsimp only
    rw [PitChannel.after_mode0 hwild hbcd hmode hload hout hk]
    exact ⟨rfl, rfl⟩

end Sys2Proof.Machine
end

section
/-!
The DMA controller: how a channel counts its transfers, and what terminal count does (63_dma.md R571, R579, R600).
-/
namespace Sys2Proof.Machine

theorem DmaChannel.after_succ (k : Nat) (h : DmaChannel) : h.after (k + 1) = (h.after k).advance := by
  induction k generalizing h with
  | zero => rfl
  | succ k ih => exact ih _

theorem DmaChannel.advance_of_pos {h : DmaChannel} (hcnt : h.curCnt ≠ 0) :
    h.advance = { h with curAddr := h.nextAddr, curCnt := h.curCnt - 1 } :=
  if_neg hcnt

theorem DmaChannel.advance_terminal {h : DmaChannel} (hcnt : h.curCnt = 0) :
    h.advance = if h.autoInit then { h with curAddr := h.baseAddr, curCnt := h.baseCnt }
      else { h with curAddr := h.nextAddr, curCnt := 0xFFFF } :=
  if_pos hcnt

/-- One more address in the channel's direction. -/
theorem DmaChannel.nextAddr_moved (h : DmaChannel) (k : Nat) (n : Word) :
    { h with curAddr := h.moved k, curCnt := n }.nextAddr = h.moved (k + 1) := by
  change (if h.down then h.moved k - 1 else h.moved k + 1) = h.moved (k + 1)
  unfold DmaChannel.moved
  cases h.down
  · simp only [Bool.false_eq_true, if_false]
    bv_omega
  · simp only [if_true]
    bv_omega

/-- Up to terminal count only address and count of the channel move. -/
theorem DmaChannel.after_eq {h : DmaChannel} {k : Nat} (hk : k ≤ h.curCnt.toNat) :
    h.after k = { h with curAddr := h.moved k, curCnt := h.curCnt - BitVec.ofNat 16 k } := by
  induction k with
  | zero =>
    have haddr : h.moved 0 = h.curAddr := by simp [DmaChannel.moved]
    rw [haddr, BitVec.sub_zero]
    rfl
  | succ k ih =>
    have hpos : h.curCnt - BitVec.ofNat 16 k ≠ 0 := fun hzero => by bv_omega
    have hcount : h.curCnt - BitVec.ofNat 16 k - 1 = h.curCnt - BitVec.ofNat 16 (k + 1) := by bv_omega
    rw [DmaChannel.after_succ, ih (by omega), DmaChannel.advance_of_pos hpos, DmaChannel.nextAddr_moved, hcount]

theorem updateChannel_bits (d : Dma) (c : BitVec 2) (f : DmaChannel → DmaChannel) :
    (d.updateChannel c f).tcBits = d.tcBits ∧ (d.updateChannel c f).sreq = d.sreq ∧
    (d.updateChannel c f).dmask = d.dmask := by
  unfold Dma.updateChannel
  split <;> exact ⟨rfl, rfl, rfl⟩

/-- The controller after the last transfer of a channel: its bits, whether or not the bus is kept. -/
theorem Dma.advance_terminal_bits {d : Dma} {c : BitVec 2} (cycle : Nat) (hcnt : (d.channel c).curCnt = 0) :
    (d.advance cycle c).tcBits = putBit d.tcBits c.toNat true ∧
    (d.advance cycle c).sreq = putBit d.sreq c.toNat false ∧ (d.advance cycle c).tcPulse = true ∧
    (d.advance cycle c).dmask = if (d.channel c).autoInit then d.dmask else putBit d.dmask c.toNat true := by
  obtain ⟨htc, hsreq, hdmask⟩ := updateChannel_bits d c DmaChannel.advance
  unfold Dma.advance
  simp only [hcnt, if_true, htc, hsreq, hdmask]
  split <;> exact ⟨rfl, rfl, rfl, rfl⟩

/-- Settles O58: by induction on the transfers up to terminal count, then by the one transfer that reaches it. -/
theorem dmaCounts : Obligations.DmaCounts := by
  refine ⟨fun h k hk => ?_, fun h => ?_, fun cycle d c hcnt => ?_⟩
  · rw [DmaChannel.after_eq hk]
    exact ⟨rfl, rfl⟩
  · have hlast : h.curCnt - BitVec.ofNat 16 h.curCnt.toNat = 0 := by simp
    rw [DmaChannel.after_succ, DmaChannel.after_eq le_rfl, DmaChannel.advance_terminal hlast,
      DmaChannel.nextAddr_moved]
    rfl
  · have hbit : c.toNat < 4 := c.isLt
    obtain ⟨htc, hsreq, hpulse, hdmask⟩ := Dma.advance_terminal_bits cycle hcnt
    dsimp only
    rw [htc, hsreq, hdmask, getLsbD_putBit hbit hbit, getLsbD_putBit hbit hbit, if_pos rfl, if_pos rfl]
    refine ⟨rfl, rfl, hpulse, ?_⟩
    cases (d.channel c).autoInit
    · rw [if_neg Bool.false_ne_true, getLsbD_putBit hbit hbit, if_pos rfl]
      rfl
    · rfl

end Sys2Proof.Machine
end

section
/-!
The parallel I/O chip's keyboard path (64_ppi.md R627, R631).
-/
namespace Sys2Proof.Machine

theorem Ppi.accepts_iff (p : Ppi) :
    p.accepts = true ↔
      p.bIsInput = false ∧ p.pbOut.getLsbD 7 = false ∧ p.pbOut.getLsbD 6 = true ∧ p.kbFull = false := by
  simp [Ppi.accepts, and_assoc]

theorem Ppi.accepts_of_kbFull {p : Ppi} (h : p.kbFull = true) : p.accepts = false := by
  simp [Ppi.accepts, h]

theorem Ppi.accepts_of_pb7 {p : Ppi} (h : p.pb 7 = true) : p.accepts = false := by
  have hbit : p.pbOut.getLsbD 7 = true := (Bool.and_eq_true_iff.1 h).2
  simp only [Ppi.accepts, hbit, Bool.not_true, Bool.and_false, Bool.false_and]

/-- While bit 7 of port B is 0 port A shows the shift register, on either machine (R627). -/
theorem Ppi.readA_eq_kbByte {p : Ppi} (q : Params) (hinput : p.aIsInput = true) (hpb : p.pb 7 = false) :
    p.readA q = p.kbByte := by
  have hbyte : p.paIn q = p.kbByte := by
    unfold Ppi.paIn
    rw [hpb]
    cases q.model <;> rfl
  rw [Ppi.readA, if_pos hinput, hbyte]

theorem Ppi.tick_of_pb7 {p : Ppi} (h : p.pb 7 = true) : p.tick = { p with kbByte := 0, kbFull := false } := if_pos h

/-- IRQ1 is the shift register's full mark: no pin reaches that line (10_state.md R28). -/
theorem newLines_irq1 (s : State) (hlda : Bool) : (s.newLines hlda).irq.getLsbD 1 = s.ppi.kbFull := by
  unfold State.newLines
  dsimp only
  rw [BitVec.getLsbD_or, BitVec.getLsbD_and]
  cases s.pit.c0.outv <;> cases s.ppi.kbFull <;> simp [bitOf]

/-- Settles O59: an accepted scancode finds bit 7 of port B at 0, which neither blocks it nor hides it from port A. -/
theorem keyboardPath : Obligations.KeyboardPath := by
  refine ⟨fun p q b haccepts => ⟨Ppi.accepts_of_kbFull rfl, fun hinput => ?_⟩, fun p hpb => ?_, newLines_irq1⟩
  · obtain ⟨-, hbit, -, -⟩ := p.accepts_iff.1 haccepts
    have hpb : (p.scancode b).pb 7 = false := by
      rw [Ppi.pb, Ppi.scancode, hbit, Bool.and_false]
    exact Ppi.readA_eq_kbByte q hinput hpb
  · rw [Ppi.tick_of_pb7 hpb]
    exact ⟨Ppi.accepts_of_pb7 hpb, rfl, rfl⟩

end Sys2Proof.Machine
end

section
/-!
The video adapter's counters over one scanline (65_video.md R652, R653).
-/
namespace Sys2Proof.Machine

theorem Video.after_succ (k : Nat) (v : Video) : v.after (k + 1) = (v.after k).characterClock := by
  induction k generalizing v with
  | zero => rfl
  | succ k ih => exact ih _

/-! ## What the checks change -/

/-- The horizontal checks change the display and the sync marks only (R652). -/
theorem Video.characterChecks_eq (v : Video) :
    ∃ d n b, v.characterChecks = { v with hdisp := d, hsc := n, inHsync := b } := by
  unfold Video.characterChecks
  dsimp only
  repeat' split
  all_goals exact ⟨_, _, _, rfl⟩

/-- The vertical checks change the display and the sync marks only (R653). -/
theorem Video.rowChecks_eq (v : Video) : ∃ d n b, v.rowChecks = { v with vdisp := d, vsc := n, inVsync := b } := by
  unfold Video.rowChecks
  dsimp only
  repeat' split
  all_goals exact ⟨_, _, _, rfl⟩

theorem Video.vsyncStep_eq (v : Video) : ∃ n b, v.vsyncStep = { v with vsc := n, inVsync := b } := by
  unfold Video.vsyncStep
  split <;> exact ⟨_, _, rfl⟩

/-! ## Within a line -/

theorem Video.characterClock_within {v : Video} (h : v.hcc ≠ v.crtc.r0) :
    ∃ d n b, v.characterClock =
      { v with hcc := v.hcc + 1, vma := v.vma + 1, hdisp := d, hsc := n, inHsync := b } := by
  rw [Video.characterClock, if_neg h]
  exact Video.characterChecks_eq _

/-- Up to R0 the clocks move the character counter and the address, besides the marks of the horizontal checks. -/
theorem Video.after_within {v : Video} (hstart : v.hcc = 0) {k : Nat} (hk : k ≤ v.crtc.r0.toNat) :
    ∃ d n b, v.after k =
      { v with hcc := BitVec.ofNat 8 k, vma := v.vma + BitVec.ofNat 14 k, hdisp := d, hsc := n, inHsync := b } := by
  induction k with
  | zero => exact ⟨v.hdisp, v.hsc, v.inHsync, by cases v; simp_all [Video.after]⟩
  | succ k ih =>
    obtain ⟨d, n, b, hbefore⟩ := ih (by omega)
    have hmore : BitVec.ofNat 8 k ≠ v.crtc.r0 := fun h => by bv_omega
    obtain ⟨d', n', b', hclock⟩ := Video.characterClock_within
      (v := { v with hcc := BitVec.ofNat 8 k, vma := v.vma + BitVec.ofNat 14 k, hdisp := d, hsc := n, inHsync := b }) hmore
    refine ⟨d', n', b', ?_⟩
    rw [Video.after_succ, hbefore, hclock]
    simp only [BitVec.ofNat_add, add_assoc]
    rfl

/-! ## The end of a line -/

/-- What of the counters a new frame leaves: the character counter, and the frames counted (R653). -/
theorem Video.newFrame_counts (v : Video) :
    v.newFrame.hcc = v.hcc ∧ v.newFrame.lineNo = 0 ∧ v.newFrame.frame = v.frame + 1 := by
  unfold Video.newFrame
  obtain ⟨d, n, b, h⟩ := Video.rowChecks_eq { v with
    vcc := 0, vlc := 0, inVta := false, vtac := 0, vdisp := decide (v.crtc.r6 ≠ 0), vmaRow := v.crtc.r12 ++ v.crtc.r13
    frame := v.frame + 1, lineNo := 0 }
  rw [h]
  exact ⟨rfl, rfl, rfl⟩

/-- A new scanline is numbered on, or begins a frame where the one before ended its own (R653). -/
theorem Video.newScanline_counts (v : Video) :
    v.newScanline.hcc = v.hcc ∧ v.newScanline.lineNo = (if v.endsFrame then 0 else v.lineNo + 1) ∧
    v.newScanline.frame = if v.endsFrame then v.frame + 1 else v.frame := by
  obtain ⟨n, b, hsync⟩ := v.vsyncStep_eq
  unfold Video.newScanline Video.endsFrame
  rw [hsync]
  dsimp only
  split
  · split
    next hlast =>
      rw [decide_eq_true hlast]
      exact Video.newFrame_counts _
    next hlast =>
      rw [decide_eq_false hlast]
      exact ⟨rfl, rfl, rfl⟩
  · split
    next hrow =>
      split
      next hlast =>
        split
        next hadjust =>
          rw [decide_eq_true ⟨hrow, hlast, hadjust⟩]
          exact Video.newFrame_counts _
        next hadjust =>
          rw [decide_eq_false fun h => hadjust h.2.2]
          exact ⟨rfl, rfl, rfl⟩
      next hlast =>
        obtain ⟨d, n', b', hchecks⟩ := Video.rowChecks_eq { v with
          vsc := n, inVsync := b, lineNo := v.lineNo + 1, vlc := 0, vcc := v.vcc + 1
          vmaRow := v.vmaRow + v.crtc.r1.setWidth 14 }
        rw [hchecks, decide_eq_false fun h => hlast h.2.1]
        exact ⟨rfl, rfl, rfl⟩
    next hrow =>
      rw [decide_eq_false fun h => hrow h.1]
      exact ⟨rfl, rfl, rfl⟩

/-- The clock at R0 begins a scanline: its address is that of its row (R652). -/
theorem Video.characterClock_at_end {v : Video} (h : v.hcc = v.crtc.r0) :
    v.characterClock.hcc = 0 ∧ v.characterClock.lineNo = (if v.endsFrame then 0 else v.lineNo + 1) ∧
    v.characterClock.frame = (if v.endsFrame then v.frame + 1 else v.frame) ∧
    v.characterClock.vma = v.characterClock.vmaRow := by
  rw [Video.characterClock, if_pos h]
  obtain ⟨hhcc, hline, hframe⟩ := Video.newScanline_counts { v with hcc := 0, hdisp := decide (v.crtc.r1 ≠ 0) }
  generalize Video.newScanline { v with hcc := 0, hdisp := decide (v.crtc.r1 ≠ 0) } = u at *
  obtain ⟨d, n, b, hchecks⟩ := Video.characterChecks_eq { u with vma := u.vmaRow, rowBuf := [] }
  dsimp only
  rw [hchecks]
  exact ⟨hhcc, hline, hframe, rfl⟩

/-- Settles O60: by induction on the clocks of the line, then by the one clock at R0. -/
theorem scanlineLength : Obligations.ScanlineLength := by
  intro v hstart
  refine ⟨fun k hk => ?_, ?_⟩
  · obtain ⟨d, n, b, h⟩ := Video.after_within hstart hk
    dsimp only
    rw [h]
    exact ⟨rfl, rfl, rfl, rfl, rfl, rfl, rfl, rfl⟩
  · obtain ⟨d, n, b, h⟩ := Video.after_within hstart le_rfl
    rw [Video.after_succ, h]
    exact Video.characterClock_at_end ((BitVec.ofNat_toNat ..).trans (BitVec.setWidth_eq _))

end Sys2Proof.Machine
end

section
/-!
Power-on and the RESET event (70_reset_and_hazards.md R700; 10_state.md R30): what a tick keeps until its last step, what of
memory the event keeps, and the table of values.
-/
namespace Sys2Proof.Machine

/-! ## What a tick keeps until its last step -/

/-- What the event takes over from the state before the tick: the parameters, how often RAM was lost, the host's inputs, the
form of memory, and the bytes of ROM. -/
structure RomKept (s t : State) : Prop where
  params : t.params = s.params
  epoch : t.memEpoch = s.memEpoch
  inputs : t.host.inputs = s.host.inputs
  wf : Memory.wf s.params.ramSize s.mem = true → Memory.wf s.params.ramSize t.mem = true
  rom : ∀ a, backing s.params.ramSize a = .rom → t.peek a = s.peek a

theorem RomKept.of_mem {s t : State} (hparams : t.params = s.params) (hepoch : t.memEpoch = s.memEpoch)
    (hinputs : t.host.inputs = s.host.inputs) (hmem : t.mem = s.mem) : RomKept s t where
  params := hparams
  epoch := hepoch
  inputs := hinputs
  wf := fun h => by rw [hmem]; exact h
  rom := fun a _ => by simp only [State.peek, hparams, hepoch, hmem]

theorem RomKept.refl (s : State) : RomKept s s := .of_mem rfl rfl rfl rfl

theorem RomKept.trans {s t u : State} (h : RomKept s t) (k : RomKept t u) : RomKept s u where
  params := k.params.trans h.params
  epoch := k.epoch.trans h.epoch
  inputs := k.inputs.trans h.inputs
  wf := fun hs => h.params ▸ k.wf (h.params.symm ▸ h.wf hs)
  rom := fun a ha => (k.rom a (h.params.symm ▸ ha)).trans (h.rom a ha)

/-- Two addresses of one byte have one backing. -/
theorem backing_eq_of_cellKey_eq (r : Nat) {a b : Addr} (h : cellKey a = cellKey b) : backing r a = backing r b := by
  rw [← backing_cellKey, h, backing_cellKey]

/-- A store never reaches ROM (20_memory.md R84). -/
theorem poke_romKept (s : State) (a : Addr) (v : Byte) : RomKept s (s.poke a v) where
  params := s.poke_params a v
  epoch := s.poke_memEpoch a v
  inputs := by rw [s.poke_host]
  wf := Memory.wf_poke s a v
  rom := fun b hb => by
    by_cases ha : backing s.params.ramSize a = .rom
    · rw [s.poke_rom a v ha]
    · exact s.peek_poke_other a b v fun hkey => ha (backing_eq_of_cellKey_eq _ hkey ▸ hb)

theorem physWrite_romKept (s : State) (a : Addr) (v : Byte) : RomKept s (s.physWrite a v) := by
  unfold State.physWrite
  split
  · exact .of_mem rfl rfl rfl rfl
  · exact poke_romKept s a v

theorem physRead_romKept (s : State) (a : Addr) : RomKept s (s.physRead a).2 :=
  .of_mem (s.physRead_params a) (s.physRead_memEpoch a) (physRead_rel s a).inputs (s.physRead_mem a)

theorem portRead_mem (s : State) (p : Word) : (s.portRead p).2.mem = s.mem ∧ (s.portRead p).2.memEpoch = s.memEpoch := by
  unfold State.portRead
  cases portDevice p
  case none =>
    dsimp only
    split <;> exact ⟨rfl, rfl⟩
  all_goals exact ⟨rfl, rfl⟩

theorem portWrite_mem (s : State) (p : Word) (v : Byte) :
    (s.portWrite p v).mem = s.mem ∧ (s.portWrite p v).memEpoch = s.memEpoch := by
  unfold State.portWrite
  cases portDevice p
  case none =>
    dsimp only
    split <;> exact ⟨rfl, rfl⟩
  all_goals exact ⟨rfl, rfl⟩

/-- A byte access of any type (20_memory.md R94). -/
theorem access_romKept (s : State) (r : BusReq) : RomKept s (s.access r).2 := by
  cases r with
  | code a => exact physRead_romKept s a
  | memR a => exact physRead_romKept s a
  | memW a v => exact physWrite_romKept s a v
  | ioR p => exact .of_mem (portRead_rel s p).params (portRead_mem s p).2 (portRead_rel s p).inputs (portRead_mem s p).1
  | ioW p v =>
    exact .of_mem (portWrite_rel s p v).params (portWrite_mem s p v).2 (portWrite_rel s p v).inputs (portWrite_mem s p v).1
  | inta =>
    change RomKept s s.intaCycle.2
    unfold State.intaCycle
    split <;> exact .of_mem rfl rfl rfl rfl

/-- The BIU phase of a tick (50_pipeline_bus_timing.md R377). -/
theorem biuPhase_romKept (s : State) : RomKept s s.biuPhase := by
  have hland (x : BusCycle) : RomKept s (s.land x) := (access_romKept s x.req).trans (.of_mem rfl rfl rfl rfl)
  unfold State.biuPhase
  split
  · split
    · exact hland _
    · exact .of_mem rfl rfl rfl rfl
  · split
    · exact hland _
    · exact .of_mem rfl rfl rfl rfl
  · exact .of_mem rfl rfl rfl rfl
  · exact .refl s

/-! ## The execution unit loses no RAM -/

theorem beginTask_memEpoch (s : State) (task : EuTask) (n : Nat) : (s.beginTask task n).memEpoch = s.memEpoch := by
  unfold State.beginTask
  dsimp only
  split
  · split <;> rfl
  · rfl

theorem interrupt_memEpoch (s : State) (k : EntryKind) : (s.interrupt k).memEpoch = s.memEpoch := by
  unfold State.interrupt
  split <;> rfl

theorem takeUp_memEpoch (s : State) : s.takeUp.memEpoch = s.memEpoch := by
  unfold State.takeUp
  split
  · rfl
  · split
    · rw [beginTask_memEpoch, interrupt_memEpoch]
    · dsimp only
      split
      · rfl
      · split
        · exact beginTask_memEpoch ..
        · split <;> rfl

theorem taskEdge_memEpoch (s : State) (task : EuTask) (c : Cpu) : (s.taskEdge task c).memEpoch = s.memEpoch := by
  unfold State.taskEdge State.segEdge
  split
  · split <;> rfl
  · rfl

theorem advance_memEpoch (s : State) (task : EuTask) (start : Cpu) (answers : List Byte) :
    (s.advance task start answers).memEpoch = s.memEpoch := by
  unfold State.advance
  split
  · rfl
  · rw [takeUp_memEpoch, State.atBoundary_memEpoch, taskEdge_memEpoch, State.retire_memEpoch]
  · rw [takeUp_memEpoch, State.atBoundary_memEpoch, taskEdge_memEpoch, State.transfer_memEpoch]
  · rw [takeUp_memEpoch]
  · rfl
  · rfl

theorem proceed_memEpoch (s : State) (task : EuTask) (start : Cpu) (answers : List Byte) :
    (s.proceed task start answers).memEpoch = s.memEpoch := by
  unfold State.proceed
  dsimp only
  split
  · exact advance_memEpoch ..
  · rfl

theorem euWork_memEpoch (s : State) : s.euWork.memEpoch = s.memEpoch := by
  unfold State.euWork
  split
  · rfl
  · split
    · rfl
    · dsimp only
      split
      · exact proceed_memEpoch ..
      · rfl
  · split
    · exact proceed_memEpoch ..
    · split
      · rfl
      · exact advance_memEpoch ..

theorem afterGap_memEpoch (s : State) : s.afterGap.memEpoch = s.memEpoch := by
  unfold State.afterGap
  split
  · rfl
  · rfl
  · exact advance_memEpoch ..

theorem euPhase_memEpoch (s : State) : s.euPhase.memEpoch = s.memEpoch := by
  unfold State.euPhase
  split
  · dsimp only
    split
    · exact afterGap_memEpoch _
    · rfl
  · split
    · split
      · rw [euWork_memEpoch, takeUp_memEpoch]
      · exact takeUp_memEpoch s
    · exact euWork_memEpoch s
    · exact euWork_memEpoch s

theorem euPhase_romKept (s : State) : RomKept s s.euPhase :=
  have h := euPhase_rel s
  .of_mem h.params (euPhase_memEpoch s) h.inputs h.mem

theorem nextT_memEpoch (s : State) : s.nextT.memEpoch = s.memEpoch := by
  have hcycle : s.nextCycle.memEpoch = s.memEpoch := by
    unfold State.nextCycle
    split
    · rfl
    · split <;> rfl
  unfold State.nextT
  split
  case h_5 | h_6 | h_7 =>
    split
    · rfl
    · exact hcycle
  all_goals rfl

theorem nextT_romKept (s : State) : RomKept s s.nextT :=
  have h := nextT_keeps s
  .of_mem h.params (nextT_memEpoch s) (congrArg HostState.inputs h.host) h.mem

/-! ## The devices lose no RAM and store no byte of ROM -/

theorem dmaCarry_romKept (s : State) (c : BitVec 2) (a : Addr) (ty : DmaType) : RomKept s (s.dmaCarry c a ty) := by
  cases ty with
  | verify => exact .refl s
  | write => exact RomKept.trans (t := (s.dmaByte c).2) (.of_mem rfl rfl (dmaRead_inputs ..) rfl) (physWrite_romKept ..)
  | read => exact (physRead_romKept s a).trans (.of_mem rfl rfl rfl rfl)

theorem dmaMove_romKept (s : State) (c : BitVec 2) : RomKept s (s.dmaMove c) := by
  unfold State.dmaMove
  dsimp only
  split
  · exact .refl s
  · split
    · exact RomKept.trans (t := s.drewDevice) (.of_mem rfl rfl rfl rfl) (dmaCarry_romKept ..)
    · exact dmaCarry_romKept ..

theorem dmaTransfer_romKept (s : State) (c : BitVec 2) : RomKept s (s.dmaTransfer c) := by
  unfold State.dmaTransfer
  dsimp only
  split <;> exact (dmaMove_romKept s c).trans (.of_mem rfl rfl rfl rfl)

theorem dmaProgress_romKept (s : State) (c : BitVec 2) (dreq : BitVec 4) : RomKept s (s.dmaProgress c dreq) := by
  unfold State.dmaProgress
  split
  · exact .of_mem rfl rfl rfl rfl
  · split
    · exact dmaTransfer_romKept s c
    · split <;> exact .of_mem rfl rfl rfl rfl

theorem dmaTick_romKept (s : State) (hlda : Bool) : RomKept s (s.dmaTick hlda) := by
  have hput (d : Dma) : RomKept s { s with dma := d } := .of_mem rfl rfl rfl rfl
  unfold State.dmaTick
  dsimp only
  split
  · split
    · exact (hput _).trans (dmaProgress_romKept ..)
    · exact hput _
  · split
    · split
      · exact (hput _).trans (dmaProgress_romKept ..)
      · exact hput _
    · exact hput _

theorem dotClock_romKept (s : State) : RomKept s s.dotClock := by
  unfold State.dotClock
  dsimp only
  split <;> exact .of_mem rfl rfl rfl rfl

theorem videoTick_romKept (s : State) : RomKept s s.videoTick := by
  unfold State.videoTick
  dsimp only
  split
  · exact .of_mem rfl rfl rfl rfl
  · split
    · exact ((dotClock_romKept _).trans (dotClock_romKept _)).trans (dotClock_romKept _)
    · split <;> exact .of_mem rfl rfl rfl rfl

theorem deviceTicks_romKept (s : State) (hlda : Bool) : RomKept s (s.deviceTicks hlda) := by
  have hkeeps (t : State) (p : Pit) (q : Pic) (k : Nat) :
      RomKept t { t with pit := p, pic := q, host := { t.host with draws := k } } := .of_mem rfl rfl rfl rfl
  have hppi (t : State) : RomKept t { t with ppi := t.ppi.tick } := .of_mem rfl rfl rfl rfl
  exact (((hkeeps s _ _ _).trans (dmaTick_romKept _ hlda)).trans (hppi _)).trans (videoTick_romKept _)

/-! ## What the event keeps of memory -/

theorem lookup_eq_none_of_risingFrom {j k : Nat} {m : List Host.Cell} (hm : risingFrom j m = true) (hk : k ≤ j) :
    lookup k m = none := by
  cases m with
  | nil => rfl
  | cons cell m =>
    obtain ⟨k', v'⟩ := cell
    simp only [risingFrom, Bool.and_eq_true, decide_eq_true_eq] at hm
    exact if_pos (Nat.lt_of_le_of_lt hk hm.1)

/-- A cell that is kept is found as before: the keys rise, so no cell that went hid it. -/
theorem lookup_filter_of_kept {k : Nat} {p : Host.Cell → Bool} {m : List Host.Cell} (hm : rising m = true)
    (hp : ∀ v, p (k, v) = true) : lookup k (m.filter p) = lookup k m := by
  induction m with
  | nil => rfl
  | cons cell m ih =>
    obtain ⟨k', v'⟩ := cell
    have htail := ih (rising_of_risingFrom m hm)
    rw [List.filter_cons]
    split
    · simp only [lookup, htail]
    next hdropped =>
      have hne : k ≠ k' := fun h => hdropped (h ▸ hp v')
      rw [htail, lookup, if_neg hne]
      split
      next hlt => exact lookup_eq_none_of_risingFrom hm hlt.le
      next => rfl

theorem lookup_filter_of_dropped {k : Nat} {p : Host.Cell → Bool} (m : List Host.Cell) (hp : ∀ v, p (k, v) = false) :
    lookup k (m.filter p) = none := by
  induction m with
  | nil => rfl
  | cons cell m ih =>
    obtain ⟨k', v'⟩ := cell
    rw [List.filter_cons]
    split
    next hkept =>
      have hne : k ≠ k' := fun h => Bool.false_ne_true ((hp v').symm.trans (h ▸ hkept))
      rw [lookup, if_neg hne, ih, ite_self]
    next => exact ih

/-- ROM keeps its bytes over the event (R700). -/
theorem restart_peek_rom {s : State} (hwf : Memory.wf s.params.ramSize s.mem = true) {a : Addr}
    (ha : backing s.params.ramSize a = .rom) : s.restart.peek a = s.peek a := by
  have hrising : rising s.mem = true := (Bool.and_eq_true_iff.1 hwf).1
  have hfound : lookup (cellKey a) (keepRom s.params.ramSize s.mem) = lookup (cellKey a) s.mem :=
    lookup_filter_of_kept hrising fun v => by simp [backing_cellKey, ha]
  change (lookup (cellKey a) (keepRom s.params.ramSize s.mem)).getD (unlisted s.params.ramSize (s.memEpoch + 1) a) = _
  rw [hfound, State.peek, unlisted, unlisted, if_pos ha, if_pos ha]

/-- Every byte of RAM and of video memory is a new free one (10_state.md R30). -/
theorem restart_peek_ram {s : State} {a : Addr} (ha : backing s.params.ramSize a ≠ .rom) :
    s.restart.peek a = Config.powerOnByte (s.memEpoch + 1) (cellKey a) := by
  have hlost : lookup (cellKey a) (keepRom s.params.ramSize s.mem) = none :=
    lookup_filter_of_dropped _ fun v => by simp [backing_cellKey, ha]
  change (lookup (cellKey a) (keepRom s.params.ramSize s.mem)).getD (unlisted s.params.ramSize (s.memEpoch + 1) a) = _
  rw [hlost, unlisted, if_neg ha, Option.getD_none]

/-! ## The table -/

/-- The values of the table, whatever is counted, whatever memory holds, and whatever the host gives (R700). -/
theorem afterReset_reset (draws : Nat) (mem : List Host.Cell) (epoch : Nat) (host : HostState) (params : Params) :
    State.AfterReset { State.reset with
      cpu := { Cpu.reset with draws := draws }, mem := mem, memEpoch := epoch, host := host, params := params } where
  segments := ⟨rfl, rfl, rfl, rfl, rfl⟩
  flags := rfl
  general := fun r => by cases r <;> rfl
  hidden := ⟨rfl, rfl, rfl, rfl, rfl, rfl, rfl, rfl, rfl, rfl⟩
  bus := ⟨rfl, rfl⟩
  eu := ⟨rfl, rfl⟩
  lines := rfl
  pic := ⟨rfl, rfl, rfl, rfl, show Pic.reset.intr = false by decide, rfl, rfl, rfl, rfl, rfl⟩
  pit := ⟨rfl, fun c hc => by
    obtain rfl : c = PitChannel.reset := by simpa [State.reset, Pit.reset] using hc
    exact ⟨rfl, rfl, rfl, rfl, rfl, rfl, rfl⟩⟩
  dma := ⟨rfl, rfl, rfl, rfl, rfl, rfl, rfl, rfl, rfl, rfl, rfl,
    show Dma.reset.hrq 0 = false by decide, show ∀ c, Dma.reset.channel c = DmaChannel.reset by decide⟩
  ppi := ⟨rfl, rfl, rfl, rfl, rfl, rfl⟩
  video := ⟨rfl, rfl, rfl⟩

/-- The freshly reset keyboard path takes no scancode: the host is told, and nothing else changes (64_ppi.md R631). -/
theorem restart_keyboard (s : State) : ∃ h, s.restart.keyboard = { s.restart with host := h } ∧
    ∀ b, s.input.bind (·.scancode) = some b → h.out.getLast? = some (.scancodeRefused b) := by
  have hrefuses : s.restart.ppi.accepts = false := show Ppi.reset.accepts = false by decide
  have hinput : s.restart.input = s.input := rfl
  unfold State.keyboard
  rw [hinput]
  cases hcode : s.input.bind (·.scancode) with
  | none => exact ⟨s.host, rfl, nofun⟩
  | some b =>
    refine ⟨s.host.emit (.scancodeRefused b), by simp only [hrefuses, Bool.false_eq_true, if_false]; rfl, ?_⟩
    rintro _ ⟨⟩
    exact List.getLast?_concat

/-- The steps of a tick up to the host's events. -/
def State.beforeEvents (s : State) : State :=
  let c := { s.sampleNmi with biu := { s.biu with boundary := false } }.biuPhase.euPhase.nextT
  c.deviceTicks (decide (s.biu.t = .th))

theorem beforeEvents_romKept (s : State) : RomKept s s.beforeEvents := by
  have hsampled : RomKept s { s.sampleNmi with biu := { s.biu with boundary := false } } := .of_mem rfl rfl rfl rfl
  exact (((hsampled.trans (biuPhase_romKept _)).trans (euPhase_romKept _)).trans (nextT_romKept _)).trans
    (deviceTicks_romKept ..)

theorem RomKept.input {s t : State} (h : RomKept s t) : t.input = s.input := by
  rw [State.input, State.input, h.inputs]

theorem RomKept.resetDue {s t : State} (h : RomKept s t) : t.resetDue = s.resetDue := by
  rw [State.resetDue, State.resetDue, h.input]

/-- A tick with RESET ends in the freshly reset machine of the state its steps led to. -/
theorem tick_of_resetDue {s t : State} (hdue : s.resetDue = true) (htick : s.tick = .next t) :
    t = s.beforeEvents.restart.keyboard.dropInput := by
  rw [tickWith_eq_next htick]
  exact if_pos ((beforeEvents_romKept s).resetDue.trans hdue)

/-- Settles O54: the steps of the tick keep ROM and lose no RAM, and then everything else is made anew. -/
theorem resetEvent : Obligations.ResetEvent := by
  refine ⟨afterReset_reset 0 [] 0 HostState.reset Params.reset, fun s t hwf hdue htick => ?_⟩
  have hkept := beforeEvents_romKept s
  obtain ⟨h, hkeyboard, hout⟩ := restart_keyboard s.beforeEvents
  have ht := tick_of_resetDue hdue htick
  rw [hkeyboard] at ht
  subst ht
  refine ⟨afterReset_reset _ _ _ _ _, hkept.params, congrArg (· + 1) hkept.epoch, ?_, fun a ha => ?_, fun a ha => ?_⟩
  · rw [← hkept.input]
    exact hout
  · have hrom := restart_peek_rom (s := s.beforeEvents) (hkept.params.symm ▸ hkept.wf hwf) (hkept.params.symm ▸ ha)
    exact hrom.trans (hkept.rom a ha)
  · have hram := restart_peek_ram (s := s.beforeEvents) (hkept.params.symm ▸ ha)
    rw [hkept.epoch] at hram
    exact hram

/-- Settles O53: the RESET event leaves a safe state, and power-on differs from it only in what the invariant leaves open. -/
theorem resetIsSafe : Obligations.ResetIsSafe :=
  have h : Inv State.reset.restart := restart_inv rfl
  ⟨h.mem, h.biu, h.dma, h.vbase, h.phase⟩

end Sys2Proof.Machine
end
